-- ==== Sys2Proof/Word.lean ====
section
/-! DEFINITION. The words the part moves: bytes on the desk links, 32-bit slots on the lanes, the
24-bit sample field of a slot (R146, R159). -/

namespace Sys2Proof

/-- One byte of a desk message (section 9.1). -/
abbrev Byte := BitVec 8

/-- One 32-bit slot of a lane (R146). -/
abbrev SlotWord := BitVec 32

/-- The 24-bit two's complement audio field of a slot (R146). -/
abbrev AudioField := BitVec 24

/-- A block counter value (R147): 32 bits, wrapping. -/
abbrev BlockNo := BitVec 32

/-- A leave tag (R63): 0 to 65535, wrapping. -/
abbrev LeaveTag := BitVec 16

end Sys2Proof
end

