-- ==== Sys2Proof/Config.lean ====
section
/-! DEFINITION. The numbers the manual fixes for the part. The manual leaves no arithmetic value open, so
there is no free value here: every constant below is a rule's own number. -/

namespace Sys2Proof.Config

/-- A ready queue never holds more than 8 entries (R28). -/
def queueCapacity : Nat := 8

/-- Capacity of AIR-A and AIR-B (R51). -/
def airCapacity : Nat := 6

/-- Capacity of PRIV-A and PRIV-B (R51). -/
def privCapacity : Nat := 4

/-- Capacity of the SCREEN group (R51). -/
def screenCapacity : Nat := 4

/-- The largest gain code (R75). -/
def maxGain : Nat := 32767

/-- Unity gain, the reset value of every level and gain target (R75, R100). -/
def unityGain : Nat := 16384

/-- The step of every ramp, per audio frame (R82). -/
def rampStep : Nat := 128

/-- The block ends a CLEARING line waits (R21). -/
def clearingTimeout : Nat := 2000

/-- The arrival debounce, in block ends (R141). -/
def arrivalBlocks : Nat := 20

/-- The party-gone debounce, in block ends (R142). -/
def goneBlocks : Nat := 200

/-- Audio frames in a block (R147). -/
def framesPerBlock : Nat := 48

/-- Consecutive LOCKED block ends before the clock is REFERENCED (R149). -/
def relockBlocks : Nat := 250

/-- Block ends without a good message before a link is LOST (R166). -/
def livenessBlocks : Nat := 2000

/-- The gap count at which a message in assembly is bad (R160). -/
def gapBlocks : Nat := 21

/-- Places of a reply queue (R163). -/
def replyPlaces : Nat := 16

/-- Places of a notice queue (R172). -/
def noticePlaces : Nat := 32

/-- The quiet count set by a CLIP notice raised in a frame (R174). -/
def quietAtClip : Nat := 1001

/-- The quiet count set by a CLIP notice raised at a block end (R174). -/
def quietAtBlockEnd : Nat := 1000

/-- Blocks in one second (section 4.3 of the scope file). -/
def blocksPerSecond : Nat := 1000

/-- Where every 16-bit count of the part stops (R96, R103, R134, R148, R161). -/
def maxCount : Nat := 65535

/-- Stored characters of a label (R24). -/
def labelLength : Nat := 24

/-- Messages of the longest image (section 11.2). -/
def maxImageMessages : Nat := 1000

/-- Blocks within which the serial memory answers a read (R178). -/
def readBlocks : Nat := 20

end Sys2Proof.Config
end

