-- ==== Sys2Proof/Syntax.lean ====
section
/-! DEFINITION. The vocabulary of the desk messages and lanes, and Instr: one constructor per row of the
table of operations and events. Every row is a command the block takes from outside: a desk command, a
byte or message event of a link, an event handed from one block to another, or a moment of the audio
frame or block. -/

namespace Sys2Proof

/-- Desk 0 (Studio A surface), desk 1 (Studio B surface), desk 2 (screening station). -/
abbrev Desk := Fin 3

/-- A line by its place 0 to 15. The manual's number is one more. -/
abbrev Line := Fin 16

/-- Lane L0 to L3 (R146). -/
abbrev Lane := Fin 4

/-- The outputs that can clip, numbered from 0: the returns of lines 1 to 16, then AIR-A, AIR-B, PRIV-A,
PRIV-B, SCREEN. A CLIP notice's number is one more (R170). -/
abbrev Output := Fin 21

inductive Studio where
  | a
  | b
deriving DecidableEq, Repr

/-- The three contexts (R100). -/
inductive Context where
  | studio (x : Studio)
  | screen
deriving DecidableEq, Repr

/-- The five groups (R51). PRIV-X is written priv x. -/
inductive Group where
  | air (x : Studio)
  | priv (x : Studio)
  | screen
deriving DecidableEq, Repr

/-- A slot address: lane and slot number (R146, R151). -/
structure Slot where
  lane : Lane
  num  : Fin 16
deriving DecidableEq, Repr

/-- What arrives on one lane in one audio frame: whether its frame sync came aligned with the frame clock
(R148), and its 16 slots as 32-bit words (R146). -/
structure LaneIn where
  aligned : Bool
  slots   : Vector SlotWord 16
deriving DecidableEq, Repr

/-- The commands of the catalogue (section 9.5). -/
inductive Op where
  | nop | answer | hold | queue | recall | promote | give | take | takeNext | privateTalk | park | drop
  | talkOn | talkOff | setLevel | setReturn | setLabel | setHome | forcePath
  | setConf | setCtxGain | setDuck | setTalkGain | readLine | readStudio | readMeters | linkStatus | setMask
  | mapInput | mapOutput | setPathTiming | setStemTiming | setClock | setTalkTimeout | loadConfig
deriving DecidableEq, Repr

/-- A desk command passes two moments (R162, R163): its good message completes at the desk's controller,
which checks it and hands it on, and then its owning block takes it and hands its result back. -/
inductive Moment where
  /-- the good message completes at the controller -/
  | arrives
  /-- the owning block takes the command the controller handed it -/
  | decided
  /-- both, one after the other, with the owner first taking what that controller handed it before -/
  | whole
deriving DecidableEq, Repr

/-- One constructor per row of the table. A desk command carries the desk that sends it, its line byte and
its argument bytes as they stand in the message (section 9.5). A line named by an event is a Line. -/
inductive Instr where
  /-- RESET with the levels of the straps ENG0 to ENG2 (R177). -/
  | reset (eng0 eng1 eng2 : Bool)
  | nop (d : Desk) (line : Byte) (args : List Byte)
  | answer (m : Moment) (d : Desk) (line : Byte) (args : List Byte)
  | hold (m : Moment) (d : Desk) (line : Byte) (args : List Byte)
  | queue (m : Moment) (d : Desk) (line : Byte) (args : List Byte)
  | recall (m : Moment) (d : Desk) (line : Byte) (args : List Byte)
  | promote (m : Moment) (d : Desk) (line : Byte) (args : List Byte)
  | give (m : Moment) (d : Desk) (line : Byte) (args : List Byte)
  | take (m : Moment) (d : Desk) (line : Byte) (args : List Byte)
  | takeNext (m : Moment) (d : Desk) (line : Byte) (args : List Byte)
  | privateTalk (m : Moment) (d : Desk) (line : Byte) (args : List Byte)
  | park (m : Moment) (d : Desk) (line : Byte) (args : List Byte)
  | drop (m : Moment) (d : Desk) (line : Byte) (args : List Byte)
  | talkOn (m : Moment) (d : Desk) (line : Byte) (args : List Byte)
  | talkOff (m : Moment) (d : Desk) (line : Byte) (args : List Byte)
  | setLevel (m : Moment) (d : Desk) (line : Byte) (args : List Byte)
  | setReturn (m : Moment) (d : Desk) (line : Byte) (args : List Byte)
  | setLabel (m : Moment) (d : Desk) (line : Byte) (args : List Byte)
  | setHome (m : Moment) (d : Desk) (line : Byte) (args : List Byte)
  | forcePath (m : Moment) (d : Desk) (line : Byte) (args : List Byte)
  | setConf (m : Moment) (d : Desk) (line : Byte) (args : List Byte)
  | setCtxGain (m : Moment) (d : Desk) (line : Byte) (args : List Byte)
  | setDuck (m : Moment) (d : Desk) (line : Byte) (args : List Byte)
  | setTalkGain (m : Moment) (d : Desk) (line : Byte) (args : List Byte)
  | readLine (m : Moment) (d : Desk) (line : Byte) (args : List Byte)
  | readStudio (m : Moment) (d : Desk) (line : Byte) (args : List Byte)
  | readMeters (m : Moment) (d : Desk) (line : Byte) (args : List Byte)
  | linkStatus (d : Desk) (line : Byte) (args : List Byte)
  | setMask (d : Desk) (line : Byte) (args : List Byte)
  | mapInput (m : Moment) (d : Desk) (line : Byte) (args : List Byte)
  | mapOutput (m : Moment) (d : Desk) (line : Byte) (args : List Byte)
  | setPathTiming (m : Moment) (d : Desk) (line : Byte) (args : List Byte)
  | setStemTiming (m : Moment) (d : Desk) (line : Byte) (args : List Byte)
  | setClock (m : Moment) (d : Desk) (line : Byte) (args : List Byte)
  | setTalkTimeout (m : Moment) (d : Desk) (line : Byte) (args : List Byte)
  | loadConfig (m : Moment) (d : Desk) (line : Byte) (args : List Byte)
  /-- A good message by its code byte (R162). -/
  | unknownCommand (d : Desk) (code line : Byte) (args : List Byte)
  | badMessage (d : Desk)
  | messageGapTimeout (d : Desk)
  | commandDiscarded (d : Desk)
  | linkLost (d : Desk)
  | livenessBlockEnd (d : Desk)
  | linkLiveAtLineTable (d : Desk)
  | linkLostAtLineTable (d : Desk)
  | linkLiveAtTalkArbiter (d : Desk)
  | linkLostAtTalkArbiter (d : Desk)
  | sendReply (d : Desk)
  | sendNotice (d : Desk)
  /-- The controller takes the oldest notice offered to it (R172). -/
  | noticeOffer (d : Desk)
  | partyPresent (n : Line)
  | partyGone (n : Line)
  | fadeComplete (n : Line) (tag : LeaveTag)
  | clearingCountTick
  | clearingTimeout (n : Line)
  /-- The Line Table takes the map-changed event of a block start, which names the given roles (R3, R153). -/
  | primaryRoleLoss (roles : List (Fin 44))
  | stateChangedReport (n : Line)
  /-- toFree says whether the line moved to FREE or from FREE (R143). -/
  | pathRestart (n : Line) (toFree : Bool)
  | talkTimeout
  | laneInputFrame (lanes : Vector LaneIn 4)
  | frameComputation
  | clipQuietTick
  | pendingClipNotice (o : Output)
  | blockStart
  | inputMapApply
  | outputMapApply
  | referenceLaneChange
  | laneBlockEnd
  | clockRelock
  | pathBlockEnd
  | pendingModeApply (n : Line)
  | failover (n : Line)
  | revert (n : Line)
  | feedJudgement
  | baseLevelTransition (x : Studio)
  /-- The data of one read of the marker and the count: up to four bytes, in address order (R178). -/
  | loaderHeader (b0 b1 b2 b3 : Option Byte)
  /-- The data of one read of a message of the image: the message whole, or a part of it (R178, R179). -/
  | loaderMessage (bytes : List Byte)
  | memoryTimeout
  | byteReceived (d : Desk) (b : Byte)
  | messageSent (d : Desk)
deriving DecidableEq, Repr

end Sys2Proof
end

