-- ==== Sys2Proof/Decode.lean ====
section
/-! DEFINITION. Reading desk messages: the catalogue's codes and argument counts (section 9.5), the receive
assembler (R159), and the encoders of the message forms. The table gives no row any bits, so
decodeTableWord reads no command from a word. -/

namespace Sys2Proof

/-- Every command of the catalogue, in the catalogue's order (section 9.5). -/
def allOps : List Op :=
  [.nop, .answer, .hold, .queue, .recall, .promote, .give, .take, .takeNext, .privateTalk, .park, .drop,
   .talkOn, .talkOff, .setLevel, .setReturn, .setLabel, .setHome, .forcePath, .setConf, .setCtxGain, .setDuck,
   .setTalkGain, .readLine, .readStudio, .readMeters, .linkStatus, .setMask, .mapInput, .mapOutput,
   .setPathTiming, .setStemTiming, .setClock, .setTalkTimeout, .loadConfig]

/-- The full-form code of a command (section 9.5). -/
def opCode : Op → Byte
  | .nop => 0x00 | .answer => 0x10 | .hold => 0x11 | .queue => 0x12 | .recall => 0x13 | .promote => 0x14
  | .give => 0x15 | .take => 0x16 | .takeNext => 0x17 | .privateTalk => 0x18 | .park => 0x19 | .drop => 0x1A
  | .talkOn => 0x1B | .talkOff => 0x1C | .setLevel => 0x20 | .setReturn => 0x21 | .setLabel => 0x22
  | .setHome => 0x23 | .forcePath => 0x24 | .setConf => 0x30 | .setCtxGain => 0x31 | .setDuck => 0x32
  | .setTalkGain => 0x33 | .readLine => 0x40 | .readStudio => 0x41 | .readMeters => 0x42 | .linkStatus => 0x43
  | .setMask => 0x48 | .mapInput => 0x50 | .mapOutput => 0x51 | .setPathTiming => 0x52 | .setStemTiming => 0x53
  | .setClock => 0x54 | .setTalkTimeout => 0x55 | .loadConfig => 0x56

/-- The command a code byte names, or none when the code is not in the catalogue (R162). -/
def opOfCode (code : Byte) : Option Op := allOps.find? (fun o => opCode o == code)

/-- The number of argument bytes the catalogue gives a command; SET-LABEL's is 0 to 58 (section 9.5). -/
def argCountFits : Op → Nat → Bool
  | .setLabel, n => n ≤ 58
  | .queue, n | .give, n | .setHome, n | .forcePath, n | .readStudio, n | .setClock, n => n == 1
  | .setLevel, n | .setReturn, n | .setDuck, n | .setMask, n | .setTalkTimeout, n => n == 2
  | .setConf, n | .setTalkGain, n | .mapInput, n => n == 3
  | .setCtxGain, n | .setPathTiming, n | .setStemTiming, n => n == 4
  | .mapOutput, n => n == 5
  | _, n => n == 0

/-- The command of a compact code, bits 7 to 5 of byte 2 (section 9.5). -/
def opOfCompact (k : Nat) : Op :=
  match k with
  | 0 => .take | 1 => .park | 2 => .drop | 3 => .talkOn | 4 => .talkOff | 5 => .answer | 6 => .privateTalk
  | _ => .takeNext

/-- The receive assembler: in COMPACT and FULL, the bytes collected after the lead byte (R159). -/
inductive Assembler where
  | hunt
  | compact (got : List Byte)
  | full (got : List Byte)
deriving DecidableEq, Repr

/-- What one received byte does to the message in assembly (R159). -/
inductive Verdict where
  /-- no message was completed -/
  | collecting
  | bad
  | good (code line : Byte) (args : List Byte)
deriving DecidableEq, Repr

/-- The 8-bit sum of the bytes (R159, R164). -/
def sumBytes : List Byte → Byte
  | [] => 0
  | b :: rest => b + sumBytes rest

/-- The check byte that brings the 8-bit sum to 0 (R159, R164). -/
def checkByte (bytes : List Byte) : Byte := 0 - sumBytes bytes

/-- The judgement of a compact message's bytes 2 and 3, and the full-form command it stands for
(R159, R162). -/
def judgeCompact (b2 b3 : Byte) : Verdict :=
  if b2.getLsbD 4 = false ∧ b3 = ~~~b2 then
    let op := opOfCompact (b2.toNat / 32)
    let line : Byte := if op = .takeNext then 0 else BitVec.ofNat 8 (b2.toNat % 16 + 1)
    .good (opCode op) line []
  else .bad

/-- The judgement of a complete full message, given from its length byte through its check (R159). -/
def judgeFull (got : List Byte) : Verdict :=
  if sumBytes got = 0 then
    match got with
    | _ :: code :: line :: rest => .good code line rest.dropLast
    | _ => .bad
  else .bad

/-- One received byte taken by the assembler (R159). -/
def feedByte (a : Assembler) (b : Byte) : Assembler × Verdict :=
  match a with
  | .hunt =>
    if b = 0xC3 then (.compact [], .collecting)
    else if b = 0xA5 then (.full [], .collecting)
    else (.hunt, .collecting)
  | .compact [] => (.compact [b], .collecting)
  | .compact (b2 :: _) => (.hunt, judgeCompact b2 b)
  | .full [] => if 2 ≤ b.toNat ∧ b.toNat ≤ 60 then (.full [b], .collecting) else (.hunt, .bad)
  | .full (n :: got) =>
    let all := n :: (got ++ [b])
    if all.length < n.toNat + 2 then (.full all, .collecting) else (.hunt, judgeFull all)

/-- The bytes taken one after another, ending with the verdict on the last of them (R159). -/
def feedBytes (a : Assembler) : List Byte → Assembler × Verdict
  | [] => (a, .collecting)
  | [b] => feedByte a b
  | b :: rest => feedBytes (feedByte a b).1 rest

/-- The bytes of a full-form command message (section 9.5). -/
def encodeFull (code line : Byte) (args : List Byte) : List Byte :=
  let body := BitVec.ofNat 8 (args.length + 2) :: code :: line :: args
  0xA5 :: (body ++ [checkByte body])

/-- The bytes of a compact command message (section 9.5). -/
def encodeCompact (k : Fin 8) (n : Line) : List Byte :=
  let b2 : Byte := BitVec.ofNat 8 (k.val * 32 + n.val)
  [0xC3, b2, ~~~b2]

/-- The image's header as the Loader judges it: the marker 0x48, 0x5A, and the message count, high byte first, 0 to
1000. None when it is no header (R178). -/
def judgeHeader (bytes : List Byte) : Option Nat :=
  match bytes with
  | [m0, m1, c1, c0] =>
    let count := c1.toNat * 256 + c0.toNat
    if m0 = 0x48 ∧ m1 = 0x5A ∧ count ≤ Config.maxImageMessages then some count else none
  | _ => none

/-- The bytes read so far can still become an image message that keeps its form: their lead and length are right as
far as they are read, and the check is not reached (R178). -/
def imageUnfinished (bytes : List Byte) : Bool :=
  match bytes with
  | [] => true
  | [lead] => lead == 0xA5
  | lead :: len :: rest => lead == 0xA5 && 2 ≤ len.toNat && len.toNat ≤ 60 && rest.length < len.toNat + 1

/-- An image message as the Loader judges it: lead 0xA5, length 2 to 60 and a check that brings the sum to
0 (R178). None when it fails any of these. -/
def judgeImageMessage (bytes : List Byte) : Option (Byte × Byte × List Byte) :=
  match bytes with
  | lead :: len :: rest =>
    if lead = 0xA5 ∧ 2 ≤ len.toNat ∧ len.toNat ≤ 60 ∧ rest.length = len.toNat + 1 then
      match judgeFull (len :: rest) with
      | .good code line args => some (code, line, args)
      | _ => none
    else none
  | _ => none

/-- The command that a word spells by the table's bits. No row of the table has bits, so no word spells
one. -/
def decodeTableWord (_nbits _w : Nat) : Option Instr := none

end Sys2Proof
end

