-- ==== Sys2Proof/Machine/State.lean ====
section
/-! DEFINITION. The state of the part, block by block as section 2.1 of the scope file names the blocks, the
events handed between blocks and not yet taken, and the state after reset. All of it is plain data. -/

namespace Sys2Proof.Machine

/-! ### Small containers -/

/-- One value per studio. -/
structure PerStudio (α : Type) where
  a : α
  b : α
deriving DecidableEq, Repr

/-! ### Line Table (R1, R2, R7, R10, R27, R63) -/

/-- The state a leaving line will enter (R1). -/
inductive Dest where
  | hold
  | queued (x : Studio)
  | air (x : Studio)
  | priv (x : Studio)
  | clearing
deriving DecidableEq, Repr

/-- The phase of a group member. The destination is present exactly when the phase is LEAVING (R2). -/
inductive Phase where
  | steady
  | leaving (dest : Dest)
deriving DecidableEq, Repr

/-- The eight states with the conditional fields each of them holds, so that R2's presence table holds by
construction. priv is the state PRIVATE. -/
inductive LineState where
  | free
  | waiting
  | screen (p : Phase)
  | hold
  | queued (x : Studio)
  | air (x : Studio) (p : Phase)
  | priv (x : Studio) (p : Phase)
  | clearing (count : Nat)
deriving DecidableEq, Repr

/-- A line record (R1) with the leave tag kept beside it (R63). -/
structure LineRec where
  state : LineState
  home  : Studio
  level : Nat
  ret   : Nat
  label : List Byte
  tag   : LeaveTag
deriving DecidableEq, Repr

/-- One place in a ready queue (R27). -/
structure Entry where
  line     : Line
  arriving : Bool
deriving DecidableEq, Repr

structure LineTable where
  recs     : Vector LineRec 16
  queues   : PerStudio (List Entry)
  fallback : Bool
deriving DecidableEq, Repr

/-! ### Context Store (R100) -/

inductive BaseLevel where
  | normal
  | safe
  | bare
deriving DecidableEq, Repr

/-- The judgement and runs of one feed (R100, R103). -/
structure FeedRec where
  good    : Bool
  goodRun : Nat
  badRun  : Nat
deriving DecidableEq, Repr

structure StudioCtx where
  airConf   : Bool
  privConf  : Bool
  duck      : Nat
  stemGain  : Nat
  holdGain  : Nat
  privGain  : Nat
  base      : BaseLevel
  stem      : FeedRec
  safe      : FeedRec
  failThr   : Nat
  revertThr : Nat
deriving DecidableEq, Repr

structure ScreenCtx where
  conf : Bool
  duck : Nat
  gain : Nat
deriving DecidableEq, Repr

structure ContextStore where
  studios : PerStudio StudioCtx
  screen  : ScreenCtx
  /-- the block whose block-end step was made last: the model's own, log entry 5 -/
  tested  : Option BlockNo
deriving DecidableEq, Repr

/-! ### Lane Interface (R146 to R149) -/

/-- One input slot as the part reads it in a frame (R146, R148). -/
structure SlotIn where
  audio     : AudioField
  valid     : Bool
  connected : Bool
deriving DecidableEq, Repr

inductive ClockState where
  | freeRun
  | referenced
deriving DecidableEq, Repr

structure LaneInterface where
  /-- the block counter -/
  block       : BlockNo
  /-- audio frames of the block whose input has been taken, 0 to 48 -/
  frames      : Nat
  /-- the input slots of the latest frame, lane by lane -/
  input       : Vector SlotIn 64
  /-- whether each lane counted as locked for the latest frame -/
  locked      : Vector Bool 4
  /-- whether each lane counted as locked in every frame of the block so far -/
  lockedSoFar : Vector Bool 4
  /-- whether each slot carried VALID 1 in every frame of the block so far -/
  validSoFar  : Vector Bool 64
  /-- each lane's judgement for the last block end taken: true for LOCKED -/
  judged      : Vector Bool 4
  /-- each lane's unlocked-block count -/
  unlocked    : Vector Nat 4
  clock       : ClockState
  refLane     : Lane
  pendingRef  : Option Lane
  relock      : Nat
  /-- the 64 output slots of the latest output frame sent -/
  sent        : Vector SlotWord 64
deriving DecidableEq, Repr

/-! ### Mix Engine (R73, R78, R174) -/

structure BaseGains where
  stem : Nat
  hold : Nat
  priv : Nat
deriving DecidableEq, Repr

/-- The clip count of an output, with its quiet count and pending mark (R96, R174). -/
structure ClipRec where
  count   : Nat
  quiet   : Nat
  pending : Bool
deriving DecidableEq, Repr

/-- One desk's peaks (R73). Groups stand in the order AIR-A, AIR-B, PRIV-A, PRIV-B, SCREEN. -/
structure PeakSet where
  input : Vector Nat 16
  ret   : Vector Nat 16
  group : Vector Nat 5
deriving DecidableEq, Repr

/-- A line's return with the VALID and RELEASE its slots carry (R95, R154). -/
structure ReturnOut where
  audio   : Int
  valid   : Bool
  release : Bool
deriving DecidableEq, Repr

/-- The results of a computation, which the next output frame sends (R78, R156). -/
structure Results where
  returns : Vector ReturnOut 16
  groups  : Vector Int 5
  copies  : Vector SlotIn 64
deriving DecidableEq, Repr

structure MixEngine where
  send       : Vector Nat 16
  ret        : Vector Nat 16
  gains      : PerStudio BaseGains
  screenTalk : Nat
  clips      : Vector ClipRec 21
  peaks      : Vector PeakSet 3
  results    : Results
deriving DecidableEq, Repr

/-! ### Talk Arbiter (R115) -/

inductive LinkState where
  | lost
  | live
deriving DecidableEq, Repr

/-- A line's talk holder with its hold start (R115). -/
structure Hold where
  holder : Desk
  start  : BlockNo
deriving DecidableEq, Repr

structure TalkArbiter where
  holds   : Vector (Option Hold) 16
  gain    : Vector Nat 3
  timeout : Vector Nat 3
  view    : Vector LinkState 3
deriving DecidableEq, Repr

/-! ### Path Monitor (R131) -/

inductive Judgement where
  | bad
  | good
  | none
deriving DecidableEq, Repr

inductive PathMode where
  | auto
  | primary
  | alternate
deriving DecidableEq, Repr

inductive PathSide where
  | primary
  | alternate
deriving DecidableEq, Repr

structure PathRec where
  judgement : Judgement
  goodRun   : Nat
  badRun    : Nat
  connected : Bool
deriving DecidableEq, Repr

structure PathLine where
  primary    : PathRec
  alternate  : PathRec
  mode       : PathMode
  pending    : Option PathMode
  active     : PathSide
  fault      : Bool
  failThr    : Nat
  revertThr  : Nat
  autoRevert : Bool
  arrival    : Nat
  gone       : Nat
  lastActive : PathSide
  lastFault  : Bool
  /-- the block whose block-end step was made last: the model's own, log entry 5 -/
  tested     : Option BlockNo
deriving DecidableEq, Repr

/-! ### Slot Map (R151 to R155) -/

/-- What an output slot carries (R154). -/
inductive OutFn where
  | none
  | ret (n : Line)
  | airMix (x : Studio)
  | privMix (x : Studio)
  | screenMix
  | copy (s : Slot)
deriving DecidableEq, Repr

/-- The two maps in effect and the two pending maps. A pending input change is present as some value,
which is itself a slot or UNASSIGNED. -/
structure SlotMap where
  input      : Vector (Option Slot) 44
  inPending  : Vector (Option (Option Slot)) 44
  output     : Vector OutFn 64
  outPending : Vector (Option OutFn) 64
deriving DecidableEq, Repr

/-! ### Start-up Loader (R178) -/

/-- A load result (R178, R170). -/
inductive LoadResult where
  | ok
  | absent
  | badHeader
  | stopped (k : Nat) (reason : Byte)
deriving DecidableEq, Repr

/-- The reading in hand: the bytes of the header or the message read so far, and the block in which the read that the
serial memory is to answer started (R178). -/
structure Reading where
  got   : List Byte
  since : BlockNo
deriving DecidableEq, Repr

/-- The load state: RUNNING, or LOADING with what the Loader reads (R178). -/
inductive LoadStage where
  | running
  | header (r : Reading)
  | message (k count : Nat) (r : Reading)
deriving DecidableEq, Repr

structure Loader where
  stage  : LoadStage
  result : Option LoadResult
deriving DecidableEq, Repr

/-! ### Desk Link Controllers (R159 to R173) -/

/-- Why a line's talk changed (R125). -/
inductive TalkCause where
  | granted | preempted | talkOff | state | linkLost | fallbackEnd | timeout
deriving DecidableEq, Repr

/-- A notice with the data of its kind (R170). -/
inductive Notice where
  /-- the state is given with a clearing count of 0: LINE-STATE does not carry the count (R17) -/
  | lineState (n : Line) (st : LineState)
  | queue (x : Studio) (entries : List Entry)
  | path (n : Line) (active : PathSide) (primary alternate : Judgement) (fault : Bool)
  | base (x : Studio) (level : BaseLevel)
  | talk (n : Line) (holder previous : Option Desk) (cause : TalkCause)
  | clip (o : Output) (count : Nat)
  | link (d : Desk) (st : LinkState)
  | clock (st : ClockState) (ref : Lane)
  | load (r : LoadResult)
  | hello (running : Bool) (clock : ClockState) (baseA baseB : BaseLevel) (busyLines : Nat)
  | lostNotices (count : Nat)
deriving DecidableEq, Repr

/-- A notice as entered in a queue, stamped with the block counter (R172). -/
structure Stamped where
  stamp  : BlockNo
  notice : Notice
deriving DecidableEq, Repr

/-- The result codes (section 9.5). -/
inductive Result where
  | done | wrongState | notYours | full | empty | busy | noLine | noParty | notEquipped | notPermitted
  | badValue | unknown | starting
deriving DecidableEq, Repr

/-- A reply before the discarded marker is put on it (R164). -/
structure Reply where
  code    : Byte
  line    : Byte
  result  : Result
  clamped : Bool
  data    : List Byte
deriving DecidableEq, Repr

/-- The block that owns a command (R162, section 9.5). -/
inductive Owner where
  | lineTable | talkArbiter | contextStore | mixEngine | slotMap | pathMonitor | laneInterface | loader
  | controller
deriving DecidableEq, Repr

/-- What a controller hands to an owner: a link event or a command it has checked (R122, R162). -/
inductive Handed where
  | live
  | lost
  | command (op : Op) (line : Byte) (args : List Byte)
deriving DecidableEq, Repr

/-- A place of the reply queue: taken and waiting for its owner's result, or filled (R163). -/
inductive Place where
  | waiting (o : Owner)
  | ready (r : Reply)
deriving DecidableEq, Repr

/-- The transmitter: idle, or sending the bytes of one message (R165). -/
inductive Transmitter where
  | idle
  | sending (bytes : List Byte)
deriving DecidableEq, Repr

structure Controller where
  assembler : Assembler
  gap       : Nat
  bad       : Nat
  replies   : List Place
  discarded : Bool
  tx        : Transmitter
  link      : LinkState
  liveness  : Nat
  mask      : BitVec 16
  notices   : List Stamped
  overflow  : Nat
  strap     : Bool
  /-- notices offered to this controller and not yet taken, oldest first (R170, R172) -/
  offered   : List Notice
  /-- link events and commands this controller has handed on that their block has not yet taken, oldest
  first (R122) -/
  handed    : List (Owner × Handed)
deriving DecidableEq, Repr

/-! ### Events between blocks that have not yet been taken (section 2.2 of the scope file) -/

inductive PartyEvent where
  | present (n : Line)
  | gone (n : Line)
deriving DecidableEq, Repr

structure Wires where
  /-- party events from the Path Monitor to the Line Table (R140) -/
  parties  : List PartyEvent
  /-- fade completions from the Mix Engine to the Line Table (R98) -/
  fades    : List (Line × LeaveTag)
  /-- state-changed reports from the Line Table to the Talk Arbiter (R17) -/
  reports  : List Line
  /-- restarts from the Line Table to the Path Monitor; true for a move to FREE (R143) -/
  restarts : List (Line × Bool)
  /-- map-changed events from the Slot Map to the Line Table, each with the roles it names (R153) -/
  mapChanges : List (List (Fin 44))
deriving DecidableEq, Repr

/-! ### The whole part -/

structure State where
  /-- the commands that are waiting, first in, first out -/
  pending : List Instr
  lines   : LineTable
  ctx     : ContextStore
  mix     : MixEngine
  talk    : TalkArbiter
  paths   : Vector PathLine 16
  lanes   : LaneInterface
  maps    : SlotMap
  desks   : Vector Controller 3
  loader  : Loader
  wires   : Wires
deriving DecidableEq, Repr

/-- No rule of the spec stops the part, so there is no fault: every command ends in a next state. -/
inductive Fault
deriving DecidableEq, Repr

/-- The one refusal a model must be able to name. No arm of exec answers it: every row has its meaning. -/
inductive Refusal where
  /-- a row without a meaning; raised by no arm; safe -/
  | notModelled (mnemonic : String)
deriving DecidableEq, Repr

/-! ### One block replaced -/

/-- The state with its Line Table replaced. -/
def State.withLines (s : State) (v : LineTable) : State := { s with lines := v }
/-- The state with its Context Store replaced. -/
def State.withCtx (s : State) (v : ContextStore) : State := { s with ctx := v }
/-- The state with its Mix Engine replaced. -/
def State.withMix (s : State) (v : MixEngine) : State := { s with mix := v }
/-- The state with its Talk Arbiter replaced. -/
def State.withTalk (s : State) (v : TalkArbiter) : State := { s with talk := v }
/-- The state with its Path Monitor replaced. -/
def State.withPaths (s : State) (v : Vector PathLine 16) : State := { s with paths := v }
/-- The state with its Lane Interface replaced. -/
def State.withLanes (s : State) (v : LaneInterface) : State := { s with lanes := v }
/-- The state with its Slot Map replaced. -/
def State.withMaps (s : State) (v : SlotMap) : State := { s with maps := v }
/-- The state with its Desk Link Controllers replaced. -/
def State.withDesks (s : State) (v : Vector Controller 3) : State := { s with desks := v }
/-- The state with its Start-up Loader replaced. -/
def State.withLoader (s : State) (v : Loader) : State := { s with loader := v }
/-- The state with the events between blocks replaced. -/
def State.withWires (s : State) (v : Wires) : State := { s with wires := v }
/-- The state with the waiting commands replaced. -/
def State.withPending (s : State) (v : List Instr) : State := { s with pending := v }

/-! ### Reset (R177 and the rule that owns each value) -/

/-- R1, R63. -/
def LineRec.reset : LineRec :=
  { state := .free, home := .a, level := Config.unityGain, ret := Config.unityGain, label := [], tag := 0 }

/-- R1, R10, R27. -/
def LineTable.reset : LineTable :=
  { recs := Vector.ofFn fun _ => LineRec.reset, queues := ⟨[], []⟩, fallback := true }

/-- R100. -/
def StudioCtx.reset : StudioCtx :=
  { airConf := true, privConf := true, duck := 2, stemGain := Config.unityGain, holdGain := Config.unityGain,
    privGain := Config.unityGain, base := .bare, stem := ⟨false, 0, 0⟩, safe := ⟨false, 0, 0⟩,
    failThr := 8, revertThr := 500 }

/-- R100. -/
def ContextStore.reset : ContextStore :=
  { studios := ⟨StudioCtx.reset, StudioCtx.reset⟩, screen := ⟨true, 2, Config.unityGain⟩, tested := none }

/-- A slot that gives audio 0 and VALID 0 (R148). -/
def SlotIn.silent : SlotIn := ⟨0, false, false⟩

/-- R73. -/
def PeakSet.zero : PeakSet :=
  ⟨Vector.ofFn fun _ => 0, Vector.ofFn fun _ => 0, Vector.ofFn fun _ => 0⟩

/-- What stands before the first computation: silence, as for FREE lines and empty groups (R4, R89). -/
def Results.silent : Results :=
  ⟨Vector.ofFn fun _ => ⟨0, false, false⟩, Vector.ofFn fun _ => 0, Vector.ofFn fun _ => SlotIn.silent⟩

/-- R73, R174. -/
def MixEngine.reset : MixEngine :=
  { send := Vector.ofFn fun _ => 0, ret := Vector.ofFn fun _ => 0, gains := ⟨⟨0, 0, 0⟩, ⟨0, 0, 0⟩⟩,
    screenTalk := 0, clips := Vector.ofFn fun _ => ⟨0, 0, false⟩, peaks := Vector.ofFn fun _ => PeakSet.zero,
    results := Results.silent }

/-- R115. -/
def TalkArbiter.reset : TalkArbiter :=
  { holds := Vector.ofFn fun _ => none, gain := Vector.ofFn fun _ => Config.unityGain,
    timeout := Vector.ofFn fun _ => 120, view := Vector.ofFn fun _ => .lost }

/-- R131. -/
def PathRec.reset : PathRec := ⟨.none, 0, 0, false⟩

/-- R131. -/
def PathLine.reset : PathLine :=
  { primary := PathRec.reset, alternate := PathRec.reset, mode := .auto, pending := none, active := .primary,
    fault := false, failThr := 8, revertThr := 500, autoRevert := true, arrival := 0, gone := 0,
    lastActive := .primary, lastFault := false, tested := none }

/-- R147, R148, R149. Block 0 begins at reset with no frame taken yet. -/
def LaneInterface.reset : LaneInterface :=
  { block := 0, frames := 0, input := Vector.ofFn fun _ => SlotIn.silent, locked := Vector.ofFn fun _ => false,
    lockedSoFar := Vector.ofFn fun _ => true, validSoFar := Vector.ofFn fun _ => true,
    judged := Vector.ofFn fun _ => false, unlocked := Vector.ofFn fun _ => 0, clock := .freeRun, refLane := 0,
    pendingRef := none, relock := 0, sent := Vector.ofFn fun _ => 0 }

/-- R151, R153, R154, R155. -/
def SlotMap.reset : SlotMap :=
  { input := Vector.ofFn fun _ => none, inPending := Vector.ofFn fun _ => none,
    output := Vector.ofFn fun _ => .none, outPending := Vector.ofFn fun _ => none }

/-- R159 to R166, R171, R172, with the strap as sampled (R177). -/
def Controller.reset (strap : Bool) : Controller :=
  { assembler := .hunt, gap := 0, bad := 0, replies := [], discarded := false, tx := .idle, link := .lost,
    liveness := 0, mask := 0x07FF, notices := [], overflow := 0, strap := strap, offered := [], handed := [] }

/-- R177, R178: reset ends with the Loader LOADING and no result stored. -/
def Loader.reset : Loader := ⟨.header ⟨[], 0⟩, none⟩

/-- The part right after reset, with no command waiting. The straps read low here, a DESIGN CHOICE: they
are pins, and RESET as a command carries their levels (log entry 1). -/
def State.reset : State :=
  { pending := [], lines := LineTable.reset, ctx := ContextStore.reset, mix := MixEngine.reset,
    talk := TalkArbiter.reset, paths := Vector.ofFn fun _ => PathLine.reset, lanes := LaneInterface.reset,
    maps := SlotMap.reset, desks := Vector.ofFn fun _ => Controller.reset false, loader := Loader.reset,
    wires := ⟨[], [], [], [], []⟩ }

end Sys2Proof.Machine
end

