-- ==== Sys2Proof/Machine/Operands.lean ====
section
/-! DEFINITION. Argument bytes of commands and data bytes of replies and notices: every operand form of
section 9.5 and every encoding of R169. -/

namespace Sys2Proof.Machine

/-! ### Numbers as bytes -/

/-- A one-byte value. -/
def byteOf (n : Nat) : Byte := BitVec.ofNat 8 n

/-- A two-byte value, high byte first (R164). -/
def bytes2 (n : Nat) : List Byte := [byteOf (n / 256), byteOf n]

/-- A three-byte value, high byte first (R175). -/
def bytes3 (n : Nat) : List Byte := [byteOf (n / 65536), byteOf (n / 256), byteOf n]

/-- A four-byte value, high byte first (R164, R176). -/
def bytes4 (n : Nat) : List Byte := [byteOf (n / 16777216), byteOf (n / 65536), byteOf (n / 256), byteOf n]

/-- The number two argument bytes carry, high byte first (section 9.5). -/
def wordOf (hi lo : Byte) : Nat := hi.toNat * 256 + lo.toNat

/-! ### Names carried as bytes -/

/-- The line a line byte names, when it is 1 to 16 (R13, step 1). -/
def lineOfByte (b : Byte) : Option Line :=
  if h : 1 ≤ b.toNat ∧ b.toNat ≤ 16 then some ⟨b.toNat - 1, by omega⟩ else none

/-- A line's number, 1 to 16. -/
def lineNumber (n : Line) : Nat := n.val + 1

/-- A studio byte: 0 for A, 1 for B (section 9.5). -/
def studioOfByte (b : Byte) : Option Studio :=
  match b.toNat with
  | 0 => some .a
  | 1 => some .b
  | _ => none

/-- A context byte: 0 for Studio A, 1 for Studio B, 2 for Screen (section 9.5). -/
def contextOfByte (b : Byte) : Option Context :=
  match b.toNat with
  | 0 => some (.studio .a)
  | 1 => some (.studio .b)
  | 2 => some .screen
  | _ => none

/-- A desk byte: 0 to 2 (section 9.5). -/
def deskOfByte (b : Byte) : Option Desk := if h : b.toNat < 3 then some ⟨b.toNat, h⟩ else none

/-- A lane byte: 0 to 3 (R150, R155). -/
def laneOfByte (b : Byte) : Option Lane := if h : b.toNat < 4 then some ⟨b.toNat, h⟩ else none

/-- A slot address carried as a lane byte and a slot byte (R152, R155). -/
def slotOfBytes (lane num : Byte) : Option Slot :=
  if h : lane.toNat < 4 ∧ num.toNat < 16 then some ⟨⟨lane.toNat, h.1⟩, ⟨num.toNat, h.2⟩⟩ else none

/-- An on/off byte: 0 or 1 (R110, R145). -/
def switchOfByte (b : Byte) : Option Bool :=
  match b.toNat with
  | 0 => some false
  | 1 => some true
  | _ => none

/-- A path mode byte: 0 AUTO, 1 PRIMARY, 2 ALTERNATE (R144). -/
def modeOfByte (b : Byte) : Option PathMode :=
  match b.toNat with
  | 0 => some .auto
  | 1 => some .primary
  | 2 => some .alternate
  | _ => none

/-- A printable character: 0x20 to 0x7E (R24). -/
def printable (b : Byte) : Bool := 0x20 ≤ b.toNat && b.toNat ≤ 0x7E

/-- The function that a MAP-OUTPUT's code and parameters name, or none when one of them is outside its
range (R155). -/
def outFnOfBytes (code p q : Byte) : Option OutFn :=
  match code.toNat with
  | 0 => some .none
  | 1 => (lineOfByte p).map .ret
  | 2 => (studioOfByte p).map .airMix
  | 3 => (studioOfByte p).map .privMix
  | 4 => some .screenMix
  | 5 => (slotOfBytes p q).map .copy
  | _ => none

/-! ### Clamping (section 9.5) -/

/-- A carried number brought into lo to hi. -/
def clampTo (lo hi n : Nat) : Nat := if n < lo then lo else if hi < n then hi else n

/-- A gain above 32767 is clamped to 32767 (R22). -/
def clampGain (n : Nat) : Nat := clampTo 0 Config.maxGain n

/-- A fail threshold is stored as 1 to 64 (R111, R145). -/
def clampFail (n : Nat) : Nat := clampTo 1 64 n

/-- A revert threshold is stored as 1 to 60000 (R111, R145). -/
def clampRevert (n : Nat) : Nat := clampTo 1 60000 n

/-- A duck depth above 4 is stored as 4 (R128). -/
def clampDuck (n : Nat) : Nat := clampTo 0 4 n

/-- A count that stops at 65535 when it would rise (R96, R103, R134, R148, R161). -/
def riseTo (limit n : Nat) : Nat := if n < limit then n + 1 else n

/-! ### Values encoded as bytes (R169, R170) -/

def boolByte (b : Bool) : Byte := if b then 1 else 0

def studioByte : Studio → Byte
  | .a => 0
  | .b => 1

def studioOptByte : Option Studio → Byte
  | some x => studioByte x
  | none => 255

def lineByte (n : Line) : Byte := byteOf (lineNumber n)

def deskByte (d : Desk) : Byte := byteOf d.val

def deskOptByte : Option Desk → Byte
  | some d => deskByte d
  | none => 255

def stateByte : LineState → Byte
  | .free => 0
  | .waiting => 1
  | .screen _ => 2
  | .hold => 3
  | .queued _ => 4
  | .air _ _ => 5
  | .priv _ _ => 6
  | .clearing _ => 7

def phaseByte : Option Phase → Byte
  | some .steady => 0
  | some (.leaving _) => 1
  | none => 255

def destByte : Option Dest → Byte
  | some .hold => 0
  | some (.queued .a) => 1
  | some (.queued .b) => 2
  | some (.air .a) => 3
  | some (.air .b) => 4
  | some (.priv .a) => 5
  | some (.priv .b) => 6
  | some .clearing => 8
  | none => 255

def baseByte : BaseLevel → Byte
  | .normal => 0
  | .safe => 1
  | .bare => 2

def judgementByte : Judgement → Byte
  | .bad => 0
  | .good => 1
  | .none => 2

def sideByte : PathSide → Byte
  | .primary => 0
  | .alternate => 1

def modeByte : PathMode → Byte
  | .auto => 0
  | .primary => 1
  | .alternate => 2

def linkByte : LinkState → Byte
  | .lost => 0
  | .live => 1

def clockByte : ClockState → Byte
  | .freeRun => 0
  | .referenced => 1

def causeByte : TalkCause → Byte
  | .granted => 0
  | .preempted => 1
  | .talkOff => 2
  | .state => 3
  | .linkLost => 4
  | .fallbackEnd => 5
  | .timeout => 6

/-- A queue's entry count, then a line and an arriving byte per entry (R169). -/
def queueBytes (q : List Entry) : List Byte :=
  byteOf q.length :: q.flatMap (fun e => [lineByte e.line, boolByte e.arriving])

end Sys2Proof.Machine
end

