-- ==== Sys2Proof/Machine/Flags.lean ====
section
/-! DEFINITION. The result byte of a reply with its clamped flag and discarded marker, and the bytes of
replies and notices (R164, R170). -/

namespace Sys2Proof.Machine

/-- The result codes (section 9.5). -/
def resultCode : Result → Nat
  | .done => 0
  | .wrongState => 1
  | .notYours => 2
  | .full => 3
  | .empty => 4
  | .busy => 5
  | .noLine => 6
  | .noParty => 7
  | .notEquipped => 8
  | .notPermitted => 9
  | .badValue => 10
  | .unknown => 11
  | .starting => 12

/-- The result byte: the code in bits 5 to 0, the discarded marker in bit 6, the clamped flag in bit 7
(R164). -/
def resultByte (r : Result) (clamped discarded : Bool) : Byte :=
  byteOf (resultCode r + (if discarded then 64 else 0) + (if clamped then 128 else 0))

/-- A message from the part: its lead, then a length, the body and a check that brings the 8-bit sum to 0
(R164). -/
def framed (lead : Byte) (body : List Byte) : List Byte :=
  let counted := byteOf body.length :: body
  lead :: (counted ++ [checkByte counted])

/-- A reply's bytes, with the discarded marker the transmitter puts on it (R163, R164). -/
def replyBytes (r : Reply) (discarded : Bool) : List Byte :=
  framed 0x5A (r.code :: r.line :: resultByte r.result r.clamped discarded :: r.data)

/-- The destination a state shows, absent outside phase LEAVING (R2). -/
def phaseOf : LineState → Option Phase
  | .screen p | .air _ p | .priv _ p => some p
  | _ => none

/-- The destination of a phase (R2). -/
def destOf : LineState → Option Dest
  | .screen (.leaving t) | .air _ (.leaving t) | .priv _ (.leaving t) => some t
  | _ => none

/-- The studio a state holds (R2). -/
def studioOf : LineState → Option Studio
  | .queued x | .air x _ | .priv x _ => some x
  | _ => none

/-- The four values of a LINE-STATE notice after the line: state, studio, phase, destination (R17, R170). -/
def stateBytes (st : LineState) : List Byte :=
  [stateByte st, studioOptByte (studioOf st), phaseByte (phaseOf st), destByte (destOf st)]

/-- Result, message number and reason of a load (R170). -/
def loadBytes : LoadResult → List Byte
  | .ok => [0, 0, 0, 0]
  | .absent => [1, 0, 0, 0]
  | .badHeader => [2, 0, 0, 0]
  | .stopped k reason => 3 :: (bytes2 k ++ [reason])

/-- The code of a notice's kind, which is also its bit in a notice mask (R170, R171). -/
def kindCode : Notice → Nat
  | .lineState _ _ => 0
  | .queue _ _ => 1
  | .path _ _ _ _ _ => 2
  | .base _ _ => 3
  | .talk _ _ _ _ => 4
  | .clip _ _ => 5
  | .link _ _ => 6
  | .clock _ _ => 7
  | .load _ => 8
  | .hello _ _ _ _ _ => 9
  | .lostNotices _ => 10

/-- The data of a notice (R170). -/
def noticeData : Notice → List Byte
  | .lineState n st => lineByte n :: stateBytes st
  | .queue x q => studioByte x :: queueBytes q
  | .path n active jp ja fault => [lineByte n, sideByte active, judgementByte jp, judgementByte ja, boolByte fault]
  | .base x level => [studioByte x, baseByte level]
  | .talk n holder previous cause => [lineByte n, deskOptByte holder, deskOptByte previous, causeByte cause]
  | .clip o count => byteOf (o.val + 1) :: bytes2 count
  | .link d st => [deskByte d, linkByte st]
  | .clock st ref => [clockByte st, byteOf ref.val]
  | .load r => loadBytes r
  | .hello running clock a b busy =>
    [boolByte running, clockByte clock, baseByte a, baseByte b, baseByte .normal, byteOf busy]
  | .lostNotices count => [byteOf count]

/-- A notice's bytes (R164). -/
def noticeBytes (n : Stamped) : List Byte :=
  framed 0x5C (byteOf (kindCode n.notice) :: (bytes4 n.stamp.toNat ++ noticeData n.notice))

end Sys2Proof.Machine
end

