-- ==== Sys2Proof/Machine/Ops.lean ====
section
/-! DEFINITION. The named operations the meanings share: reading and replacing parts of the state, offering
notices, group membership and occupancy, ready-queue moves, rights, the check order, and the one step in
which the Line Table commits a change and hands on its results. -/

namespace Sys2Proof.Machine

/-! ### Containers -/

def PerStudio.get {α : Type} (p : PerStudio α) : Studio → α
  | .a => p.a
  | .b => p.b

def PerStudio.set {α : Type} (p : PerStudio α) (x : Studio) (v : α) : PerStudio α :=
  match x with
  | .a => { p with a := v }
  | .b => { p with b := v }

/-- Lines 1 to 16 in ascending order. -/
def allLines : List Line := [0, 1, 2, 3, 4, 5, 6, 7, 8, 9, 10, 11, 12, 13, 14, 15]

/-- The place of a group in group order: AIR-A, AIR-B, PRIV-A, PRIV-B, SCREEN (R170). -/
def groupIndex : Group → Fin 5
  | .air .a => 0
  | .air .b => 1
  | .priv .a => 2
  | .priv .b => 3
  | .screen => 4

/-- The output that carries a line's return (R170). -/
def returnOutput (n : Line) : Output := ⟨n.val, by omega⟩

/-- The output of a group (R170). -/
def groupOutput (g : Group) : Output := ⟨16 + (groupIndex g).val, by omega⟩

/-- The place of a slot among the 64 of its direction. -/
def slotIndex (a : Slot) : Fin 64 := ⟨a.lane.val * 16 + a.num.val, by omega⟩

/-- The desk of a studio (R9). -/
def deskOf : Studio → Desk
  | .a => 0
  | .b => 1

/-- The studio of a desk; the screen desk has none (R54). -/
def studioOfDesk (d : Desk) : Option Studio :=
  if d = 0 then some .a else if d = 1 then some .b else none

/-- The other studio. -/
def otherStudio : Studio → Studio
  | .a => .b
  | .b => .a

/-! ### Parts of the state -/

/-- Line n's record. -/
def State.line (s : State) (n : Line) : LineRec := s.lines.recs[n]

/-- The desk's controller. -/
def State.desk (s : State) (d : Desk) : Controller := s.desks[d]

/-- The state with one controller replaced. -/
def setDesk (d : Desk) (c : Controller) (s : State) : State := s.withDesks (s.desks.set d c)

/-- The state with line n's path records and values replaced. -/
def setPath (n : Line) (p : PathLine) (s : State) : State := s.withPaths (s.paths.set n p)

/-- The studio's context record replaced. -/
def setStudio (x : Studio) (c : StudioCtx) (s : State) : State :=
  s.withCtx { s.ctx with studios := s.ctx.studios.set x c }

/-- A command that ends in the next state t. -/
def goesTo (t : State) : Host.Outcome State Fault Refusal := .next t

/-! ### Notices (section 10.1) -/

/-- Notices handed to every controller, in the order in which they are raised (R170). -/
def offerMany (ns : List Notice) (s : State) : State :=
  s.withDesks (Vector.ofFn fun d => { s.desks[d] with offered := s.desks[d].offered ++ ns })

/-- One notice handed to every controller (R170). -/
def offerAll (n : Notice) (s : State) : State := offerMany [n] s

/-- One notice handed to the controllers a test picks. -/
def offerWhere (p : Desk → Controller → Bool) (n : Notice) (s : State) : State :=
  s.withDesks (Vector.ofFn fun e =>
    if p e s.desks[e] then { s.desks[e] with offered := s.desks[e].offered ++ [n] } else s.desks[e])

/-- One notice handed to every controller but d's (R167, R170). -/
def offerOthers (d : Desk) (n : Notice) (s : State) : State := offerWhere (fun e _ => e != d) n s

/-! ### Maps in effect -/

/-- The input role numbers (R151). -/
def primaryRole (n : Line) : Fin 44 := ⟨n.val, by omega⟩
def alternateRole (n : Line) : Fin 44 := ⟨16 + n.val, by omega⟩
def stemRole : Studio → Fin 44
  | .a => 32
  | .b => 33
def safeRole : Studio → Fin 44
  | .a => 34
  | .b => 35
def holdRole : Studio → Fin 44
  | .a => 36
  | .b => 37
def privTalkRole : Studio → Fin 44
  | .a => 38
  | .b => 39
def screenTalkRole : Fin 44 := 40
def talkRole (d : Desk) : Fin 44 := ⟨41 + d.val, by omega⟩

/-- The line is equipped: its primary role is assigned in the map in effect (R3). -/
def equipped (s : State) (n : Line) : Bool := (s.maps.input[primaryRole n]).isSome

/-! ### Line states and groups -/

def isFree : LineState → Bool
  | .free => true
  | _ => false

def isClearing : LineState → Bool
  | .clearing _ => true
  | _ => false

/-- The group a line is a member of, steady or leaving (R6). -/
def memberGroup : LineState → Option Group
  | .screen _ => some .screen
  | .air x _ => some (.air x)
  | .priv x _ => some (.priv x)
  | _ => none

/-- The group in which a leaving line holds a reservation (R7). -/
def reservedGroup (st : LineState) : Option Group :=
  match destOf st with
  | some (.air x) => some (.air x)
  | some (.priv x) => some (.priv x)
  | _ => none

/-- The members of a group, in ascending line order (R51, R53). -/
def members (lt : LineTable) (g : Group) : List Line :=
  allLines.filter (fun n => memberGroup lt.recs[n].state == some g)

/-- The reservation holders of a group, in ascending line order (R51, R53). -/
def holders (lt : LineTable) (g : Group) : List Line :=
  allLines.filter (fun n => reservedGroup lt.recs[n].state == some g)

/-- Members plus reservations (R8). -/
def occupancy (lt : LineTable) (g : Group) : Nat := (members lt g).length + (holders lt g).length

/-- R51. -/
def capacity : Group → Nat
  | .air _ => Config.airCapacity
  | .priv _ => Config.privCapacity
  | .screen => Config.screenCapacity

/-- Step 7 of the check order for a group (R8). -/
def groupHasRoom (lt : LineTable) (g : Group) : Bool := occupancy lt g < capacity g

/-! ### Records and ready queues -/

/-- Line n's record replaced. -/
def setRec (n : Line) (r : LineRec) (lt : LineTable) : LineTable := { lt with recs := lt.recs.set n r }

/-- Line n put into a state; its other fields stand (R2). -/
def setState (n : Line) (st : LineState) (lt : LineTable) : LineTable :=
  setRec n { lt.recs[n] with state := st } lt

/-- A studio's ready queue. -/
def queueOf (lt : LineTable) (x : Studio) : List Entry := lt.queues.get x

def setQueue (x : Studio) (q : List Entry) (lt : LineTable) : LineTable :=
  { lt with queues := lt.queues.set x q }

/-- Step 7 of the check order for a queue (R28). -/
def queueHasRoom (lt : LineTable) (x : Studio) : Bool := (queueOf lt x).length < Config.queueCapacity

/-- Line n's entry leaves whichever queue holds it, and the entries behind it close up (R29). -/
def dropEntry (n : Line) (lt : LineTable) : LineTable :=
  { lt with queues := ⟨lt.queues.a.filter (fun e => e.line != n), lt.queues.b.filter (fun e => e.line != n)⟩ }

/-- An entry added at the tail (R28). -/
def addEntry (x : Studio) (n : Line) (arriving : Bool) (lt : LineTable) : LineTable :=
  setQueue x (queueOf lt x ++ [⟨n, arriving⟩]) lt

/-- Line n's entry is confirmed in its place: its arriving flag becomes no (R30). -/
def confirmEntry (x : Studio) (n : Line) (lt : LineTable) : LineTable :=
  setQueue x ((queueOf lt x).map (fun e => if e.line = n then { e with arriving := false } else e)) lt

/-- Line n's entry moved to position 1 of the queue; the others keep their order (R40). -/
def promoteEntry (x : Studio) (n : Line) (lt : LineTable) : LineTable :=
  setQueue x ((queueOf lt x).filter (fun e => e.line == n) ++ (queueOf lt x).filter (fun e => e.line != n)) lt

/-- The position of line n in a queue, 1 for the head, 0 when it is not there (R26). -/
def positionIn (n : Line) (q : List Entry) : Nat :=
  match q.findIdx? (fun e => e.line == n) with
  | some i => i + 1
  | none => 0

/-- The state's phase replaced, in a group state (R6). -/
def withPhase (p : Phase) : LineState → LineState
  | .screen _ => .screen p
  | .air x _ => .air x p
  | .priv x _ => .priv x p
  | st => st

/-- A leave starts: phase LEAVING toward the destination, and the leave tag advanced by one (R63). The
reservation follows from the destination (R7). -/
def startLeave (n : Line) (t : Dest) (lt : LineTable) : LineTable :=
  let r := lt.recs[n]
  setRec n { r with state := withPhase (.leaving t) r.state, tag := r.tag + 1 } lt

/-- The line enters CLEARING: out of any queue and group, count 0 (R20). -/
def enterClearing (n : Line) (lt : LineTable) : LineTable := setState n (.clearing 0) (dropEntry n lt)

/-- The line becomes FREE at once: membership, reservation, queue entry and label are gone; home studio and
levels stand (R1, R19). -/
def freeLine (n : Line) (lt : LineTable) : LineTable :=
  setRec n { lt.recs[n] with state := .free, label := [] } (dropEntry n lt)

/-- The lines a test picks become FREE at once, all of them in one step (R3, R17, R19). -/
def freeLines (gone : Line → Bool) (lt : LineTable) : LineTable :=
  { lt with
    recs := Vector.ofFn fun n =>
      if gone n then { lt.recs[n] with state := .free, label := [] } else lt.recs[n]
    queues := ⟨lt.queues.a.filter (fun e => !gone e.line), lt.queues.b.filter (fun e => !gone e.line)⟩ }

/-- A leaving line enters its destination at its fade completion (R65). -/
def enterDest (n : Line) (t : Dest) (lt : LineTable) : LineTable :=
  match t with
  | .hold => setState n .hold lt
  | .queued x => setState n (.queued x) (confirmEntry x n lt)
  | .air x => setState n (.air x .steady) lt
  | .priv x => setState n (.priv x .steady) lt
  | .clearing => enterClearing n lt

/-! ### The Line Table hands on its results (R17) -/

/-- What a LINE-STATE notice shows of a state: everything but the clearing count (R17). -/
def shown : LineState → LineState
  | .clearing _ => .clearing 0
  | st => st

/-- LINE-STATE notices, in ascending line order, for the lines whose state, studio, phase or destination
changed (R17). -/
def lineNotices (old new : LineTable) : List Notice :=
  (allLines.filter (fun n => shown old.recs[n].state != shown new.recs[n].state)).map
    (fun n => .lineState n (shown new.recs[n].state))

/-- QUEUE notices, A before B, for the queues whose list or flags changed (R17, R31). -/
def queueNotices (old new : LineTable) : List Notice :=
  (if old.queues.a = new.queues.a then [] else [.queue .a new.queues.a]) ++
  (if old.queues.b = new.queues.b then [] else [.queue .b new.queues.b])

/-- State-changed reports for the lines whose state, studio, phase, destination or home changed (R17). Where one step
changes several lines the reports come in ascending line order: DESIGN CHOICE, log entry 27. -/
def stateReports (old new : LineTable) : List Line :=
  allLines.filter (fun n =>
    shown old.recs[n].state != shown new.recs[n].state || old.recs[n].home != new.recs[n].home)

/-- Restarts for the lines moved to FREE or from FREE (R143). -/
def freeMoves (old new : LineTable) : List (Line × Bool) :=
  (allLines.filter (fun n => isFree old.recs[n].state != isFree new.recs[n].state)).map
    (fun n => (n, isFree new.recs[n].state))

/-- The Line Table makes all of a step's changes at once and hands on its results: LINE-STATE notices, then
QUEUE notices, then state-changed reports to the Talk Arbiter and restarts to the Path Monitor (R17,
R143). -/
def commit (new : LineTable) (s : State) : State :=
  let t := offerMany (lineNotices s.lines new ++ queueNotices s.lines new) (s.withLines new)
  t.withWires { t.wires with
    reports := t.wires.reports ++ stateReports s.lines new
    restarts := t.wires.restarts ++ freeMoves s.lines new }

/-! ### Senders and rights -/

/-- Who sends a command to an owner: a desk, or the Start-up Loader (R179). -/
inductive Sender where
  | desk (d : Desk)
  | loader
deriving DecidableEq, Repr

/-- What an owner hands back: the result with its clamped flag and data, and the state after it (R162). -/
structure Decision where
  result  : Result
  clamped : Bool
  data    : List Byte
  state   : State

/-- A refusal changes nothing and carries no data (R13, R164). -/
def refuse (r : Result) (s : State) : Decision := ⟨r, false, [], s⟩

/-- The command is taken: DONE with its data, in the state its effect gives. -/
def taken (data : List Byte) (t : State) : Decision := ⟨.done, false, data, t⟩

/-- The command is taken, and the clamped flag says whether a value was clamped. -/
def takenClamped (clamped : Bool) (data : List Byte) (t : State) : Decision := ⟨.done, clamped, data, t⟩

/-- The studio of the sender; the screen desk and the Loader have none (R54, R58). -/
def senderStudio : Sender → Option Studio
  | .desk d => studioOfDesk d
  | .loader => none

/-- A desk's rights on a line in its present state (R9), with fallback rights in force or not (R10). -/
def hasRights (fallback : Bool) (d : Desk) (r : LineRec) : Bool :=
  match r.state with
  | .free | .clearing _ => false
  | .air x _ | .priv x _ => d == deskOf x
  | .queued x => d == 2 || d == deskOf x
  | .waiting | .hold | .screen .steady => d == 2 || (fallback && d == deskOf r.home)
  | .screen (.leaving (.queued x)) => d == 2 || (fallback && d == deskOf r.home) || d == deskOf x
  | .screen (.leaving _) => d == 2 || (fallback && d == deskOf r.home)

/-- The studio desk's own right on a HOLD line homed to it, for TAKE and PRIVATE (R11). -/
def ownHoldRight (op : Op) (d : Desk) (r : LineRec) : Bool :=
  (op == .take || op == .privateTalk) && r.state == .hold && d == deskOf r.home

/-- Step 4 of the check order (R13, R15, R25, R179). -/
def passesRights (fallback : Bool) (op : Op) (snd : Sender) (r : LineRec) : Bool :=
  match snd with
  | .loader => false
  | .desk d =>
    if op = .setHome ∧ d ≠ 2 then false
    else isClearing r.state || hasRights fallback d r || ownHoldRight op d r

/-- Step 5 of the check order: the line commands a leaving line accepts (R14). -/
def admitsLeaving (op : Op) (snd : Sender) (st : LineState) : Bool :=
  match op, st with
  | .drop, _ => true
  | .take, .air x _ => senderStudio snd == some x
  | _, _ => false

/-- Steps 2 to 5 of the check order: the first refusal, if any (R13). -/
def refusalAt (op : Op) (snd : Sender) (n : Line) (s : State) : Option Result :=
  let r := s.line n
  if equipped s n = false then some .notEquipped
  else if isFree r.state then some .noParty
  else if passesRights s.lines.fallback op snd r = false then some .notYours
  else if (destOf r.state).isSome && !admitsLeaving op snd r.state then some .busy
  else none

/-- A line command: steps 1 to 5 of the check order, then the command's own steps 6 and 7 and its effect
(R13). -/
def lineCommand (op : Op) (snd : Sender) (line : Byte) (s : State) (body : Line → Decision) : Decision :=
  match lineOfByte line with
  | none => refuse .noLine s
  | some n =>
    match refusalAt op snd n s with
    | some r => refuse r s
    | none => body n

/-! ### Link events and commands handed on (R122) -/

/-- The first thing a controller has handed to an owner and the owner has not taken. -/
def firstFor (o : Owner) (l : List (Owner × Handed)) : Option Handed :=
  (l.find? (fun p => p.1 == o)).map (fun p => p.2)

/-- That thing taken off the list. -/
def dropFirstFor (o : Owner) (l : List (Owner × Handed)) : List (Owner × Handed) :=
  l.eraseP (fun p => p.1 == o)

/-- A filled reply put into the first place that waits for the owner (R163). -/
def fillPlace (o : Owner) (r : Reply) : List Place → List Place
  | [] => []
  | .waiting o' :: rest => if o' = o then .ready r :: rest else .waiting o' :: fillPlace o r rest
  | p :: rest => p :: fillPlace o r rest

end Sys2Proof.Machine
end

