-- ==== Sys2Proof/Machine/Talk.lean ====
section
/-! DEFINITION. The Talk Arbiter: talk rights, TALK-ON and TALK-OFF, the releases it makes on its own, and
the talk settings (chapter 6). -/

namespace Sys2Proof.Machine

/-- The Talk Arbiter's view of a desk's link is LIVE. -/
def viewLive (s : State) (d : Desk) : Bool := s.talk.view[d] == .live

/-- Fallback talk rights are in force: the Line Table's flag is on and the Talk Arbiter's own view of desk 2
is LOST (R116). -/
def talkFallback (s : State) : Bool := s.lines.fallback && !viewLive s 2

/-- A desk's talk rights on a line, with fallback counted as given (R116). -/
def talkRightsWith (fallback : Bool) (s : State) (d : Desk) (n : Line) : Bool :=
  viewLive s d && hasRights fallback d (s.line n)

/-- A desk's talk rights on a line (R116). -/
def talkRights (s : State) (d : Desk) (n : Line) : Bool := talkRightsWith (talkFallback s) s d n

/-- The line's talk holder. -/
def holderOf (s : State) (n : Line) : Option Desk := (s.talk.holds[n]).map Hold.holder

/-- Line n's hold replaced. -/
def setHold (n : Line) (h : Option Hold) (s : State) : State :=
  s.withTalk { s.talk with holds := s.talk.holds.set n h }

/-- Desk d becomes the holder, or starts its hold afresh, in the present block (R118). -/
def grantTo (d : Desk) (n : Line) (s : State) : State := setHold n (some ⟨d, s.lanes.block⟩) s

/-- The hold is released, and one TALK notice tells the cause (R125). -/
def releaseHold (n : Line) (cause : TalkCause) (s : State) : State :=
  offerAll (.talk n none (holderOf s n) cause) (setHold n none s)

/-- Steps 1 to 4 of TALK-ON and TALK-OFF share their first three (R117, R119). -/
def presentLine (line : Byte) (s : State) (body : Line → Decision) : Decision :=
  match lineOfByte line with
  | none => refuse .noLine s
  | some n =>
    if equipped s n = false then refuse .notEquipped s
    else if isFree (s.line n).state then refuse .noParty s
    else body n

/-- Step 4 of TALK-ON: talk rights, which a CLEARING line gives to every desk with a LIVE link view
(R117). -/
def passesTalkRights (s : State) (snd : Sender) (n : Line) : Bool :=
  match snd with
  | .loader => false
  | .desk d => talkRights s d n || (isClearing (s.line n).state && viewLive s d)

/-- The studio X desk takes the talk of a QUEUED X, AIR X or PRIVATE X line from desk 2 (R118). -/
def preempts (d : Desk) (st : LineState) : Bool :=
  match studioOf st with
  | some x => d == deskOf x
  | none => false

/-- Step 7 of TALK-ON: the holder test (R118). -/
def claimTalk (d : Desk) (n : Line) (s : State) : Decision :=
  match holderOf s n with
  | none => taken [deskByte d] (offerAll (.talk n (some d) none .granted) (grantTo d n s))
  | some h =>
    if h = d then taken [deskByte d] (grantTo d n s)
    else if h = 2 ∧ preempts d (s.line n).state = true then
      taken [deskByte d] (offerAll (.talk n (some d) (some h) .preempted) (grantTo d n s))
    else refuse .busy s

/-- TALK-ON (R117, R118). -/
def decideTalkOn (snd : Sender) (line : Byte) (_args : List Byte) (s : State) : Decision :=
  presentLine line s fun n =>
    if passesTalkRights s snd n = false then refuse .notYours s
    else if (destOf (s.line n).state).isSome then refuse .busy s
    else if isClearing (s.line n).state then refuse .wrongState s
    else
      match snd with
      | .desk d => claimTalk d n s
      | .loader => refuse .notYours s

/-- TALK-OFF (R119). -/
def decideTalkOff (snd : Sender) (line : Byte) (_args : List Byte) (s : State) : Decision :=
  presentLine line s fun n =>
    if isClearing (s.line n).state then refuse .wrongState s
    else
      match snd, holderOf s n with
      | .desk d, some h => if h = d then taken [] (releaseHold n .talkOff s) else refuse .notYours s
      | .desk d, none => if talkRights s d n then taken [] s else refuse .notYours s
      | .loader, _ => refuse .notYours s

/-! ### Releases the Talk Arbiter makes on its own -/

/-- Every line of the list that the test picks is released, in the list's order. -/
def releaseWhere (test : State → Line → Bool) (cause : TalkCause) : List Line → State → State
  | [], s => s
  | n :: rest, s => releaseWhere test cause rest (if test s n then releaseHold n cause s else s)

/-- The re-check of a reported line (R121). R121 also says that a DROP retarget releases no hold, since the holder keeps its
rights; a studio desk whose hold on a SCREEN line rests on the destination QUEUED alone (R116, R123) loses them by it.
DESIGN CHOICE, log entry 29: the re-check has no exception, and that hold is released with cause STATE. -/
def recheckLine (n : Line) (s : State) : State :=
  match holderOf s n with
  | none => s
  | some d =>
    if talkRights s d n && !(isFree (s.line n).state || isClearing (s.line n).state) then s
    else releaseHold n .state s

/-- The link view of a desk replaced (R122). -/
def setView (d : Desk) (v : LinkState) (s : State) : State :=
  s.withTalk { s.talk with view := s.talk.view.set d v }

/-- The Talk Arbiter takes a link-LOST event: every hold of that desk is released (R122). -/
def talkLinkLost (d : Desk) (s : State) : State :=
  releaseWhere (fun s n => holderOf s n == some d) .linkLost allLines (setView d .lost s)

/-- A studio desk's hold that has no rights with fallback not in force (R123). -/
def restsOnFallback (s : State) (n : Line) : Bool :=
  match holderOf s n with
  | some d => d != 2 && !talkRightsWith false s d n
  | none => false

/-- The Talk Arbiter takes a link-LIVE event; desk 2's also ends fallback talk rights (R122, R123). -/
def talkLinkLive (d : Desk) (s : State) : State :=
  let t := setView d .live s
  if d = 2 then releaseWhere restsOnFallback .fallbackEnd allLines t else t

/-- The hold's elapsed count has reached its desk's timeout at this block end (R124). -/
def timedOut (s : State) (n : Line) : Bool :=
  match s.talk.holds[n] with
  | some h =>
    let seconds := s.talk.timeout[h.holder]
    seconds != 0 && seconds * Config.blocksPerSecond ≤ (s.lanes.block - h.start).toNat
  | none => false

/-- The Talk Arbiter's block-end test of every held line (R124). -/
def talkBlockEnd (s : State) : State := releaseWhere timedOut .timeout allLines s

/-! ### Talk settings -/

/-- SET-TALK-GAIN (R126). -/
def decideSetTalkGain (snd : Sender) (_line : Byte) (args : List Byte) (s : State) : Decision :=
  match args with
  | [desk, hi, lo] =>
    match deskOfByte desk with
    | none => refuse .badValue s
    | some e =>
      let allowed := match snd with
        | .loader => true
        | .desk d => d == e || (s.desk d).strap
      let v := clampGain (wordOf hi lo)
      if allowed then
        takenClamped (v != wordOf hi lo) (bytes2 v) (s.withTalk { s.talk with gain := s.talk.gain.set e v })
      else refuse .notYours s
  | _ => refuse .badValue s

/-- SET-TALK-TIMEOUT (R127). -/
def decideSetTalkTimeout (_snd : Sender) (_line : Byte) (args : List Byte) (s : State) : Decision :=
  match args with
  | [desk, seconds] =>
    match deskOfByte desk with
    | none => refuse .badValue s
    | some e =>
      taken [seconds] (s.withTalk { s.talk with timeout := s.talk.timeout.set e seconds.toNat })
  | _ => refuse .badValue s

end Sys2Proof.Machine
end

