-- ==== Sys2Proof/Machine/Links.lean ====
section
/-! DEFINITION. The Desk Link Controllers: the notice queue, the liveness of a link, the reply queue and the
transmitter (chapter 9, R171 to R173). -/

namespace Sys2Proof.Machine

/-! ### The notice queue -/

/-- The mask bit of a notice's kind (R171). -/
def maskBit (mask : BitVec 16) (n : Notice) : Bool := mask.getLsbD (kindCode n)

/-- An offered notice taken by a controller: filtered by link state and mask, then counted as lost, entered,
or entered behind a LOST-NOTICES notice (R172). -/
def enterNotice (block : BlockNo) (n : Notice) (c : Controller) : Controller :=
  if c.link = .lost then c
  else if maskBit c.mask n = false then c
  else if Config.noticePlaces ≤ c.notices.length then
    { c with overflow := if c.overflow < 255 then c.overflow + 1 else c.overflow }
  else if 0 < c.overflow ∧ maskBit c.mask (.lostNotices c.overflow) = true then
    let queued := c.notices ++ [⟨block, .lostNotices c.overflow⟩]
    if Config.noticePlaces ≤ queued.length then { c with notices := queued, overflow := 1 }
    else { c with notices := queued ++ [⟨block, n⟩], overflow := 0 }
  else { c with notices := c.notices ++ [⟨block, n⟩] }

/-- The controller takes the oldest notice offered to it and filters it by its link state and mask as they stand at
that moment (R172). DESIGN CHOICE, log entry 26: a notice raised earlier, while the mask stood otherwise, is filtered by
what stands now. -/
def takeOffer (d : Desk) (s : State) : State :=
  match (s.desk d).offered with
  | [] => s
  | n :: rest => setDesk d { enterNotice s.lanes.block n (s.desk d) with offered := rest } s

/-- The HELLO notice's data as they stand now (R173). -/
def helloNotice (s : State) : Notice :=
  .hello (s.loader.stage == .running) s.lanes.clock s.ctx.studios.a.base s.ctx.studios.b.base
    (allLines.filter (fun n => !isFree (s.line n).state)).length

/-! ### Liveness -/

/-- Link events handed to the Talk Arbiter and the Line Table, after everything handed before (R167). -/
def handLink (h : Handed) (c : Controller) : Controller :=
  { c with handed := c.handed ++ [(.talkArbiter, h), (.lineTable, h)] }

/-- The link goes LOST: link-LOST events, the notice queue emptied with its overflow count, and a LINK notice
to the other two controllers (R167, R172). -/
def goLost (d : Desk) (s : State) : State :=
  offerOthers d (.link d .lost)
    (setDesk d { handLink .lost (s.desk d) with link := .lost, notices := [], overflow := 0 } s)

/-- The link goes LIVE: link-LIVE events, HELLO offered to its own queue, and a LINK notice to the other two
controllers (R167, R173). What was offered to the controller before HELLO comes before it in the order offered, while
the link is LOST, and is not entered: the desk has missed it (R172, R173; DEDUCED, log entry 25). -/
def goLive (d : Desk) (s : State) : State :=
  let c := { handLink .live (s.desk d) with link := .live, offered := [] }
  offerOthers d (.link d .live) (setDesk d (enterNotice s.lanes.block (helloNotice s) c) s)

/-- A good message sets the liveness count to 0 and makes a LOST link LIVE (R166). -/
def markAlive (d : Desk) (s : State) : State :=
  let t := setDesk d { s.desk d with liveness := 0 } s
  if (s.desk d).link = .lost then goLive d t else t

/-- The liveness count stands at 2000 on a LIVE link, which goes LOST (R166). -/
def loseLink (d : Desk) (s : State) : State :=
  if (s.desk d).link = .live ∧ Config.livenessBlocks ≤ (s.desk d).liveness then goLost d s else s

/-! ### Assembly -/

/-- A bad message is discarded whole and counted, and the assembler returns to HUNT (R159, R161). -/
def discardBad (d : Desk) (s : State) : State :=
  let c := s.desk d
  setDesk d { c with assembler := .hunt, gap := 0, bad := riseTo Config.maxCount c.bad } s

/-- The assembler is in COMPACT or FULL (R160). -/
def assembling : Assembler → Bool
  | .hunt => false
  | _ => true

/-- The gap count stands at 21 during assembly: the message is bad (R160). -/
def loseMessage (d : Desk) (s : State) : State :=
  if assembling (s.desk d).assembler ∧ Config.gapBlocks ≤ (s.desk d).gap then discardBad d s else s

/-- The controller's counts rise at a block end: the liveness count on a LIVE link, the gap count during
assembly (R160, R166). -/
def raiseCounts (c : Controller) : Controller :=
  { c with
    liveness := if c.link = .live then riseTo Config.livenessBlocks c.liveness else c.liveness
    gap := if assembling c.assembler then riseTo Config.gapBlocks c.gap else c.gap }

/-- A controller's block end: the counts rise, a message whose gap count reached 21 is bad, and a link whose
liveness count reached 2000 goes LOST (R160, R166). -/
def linkBlockEnd (d : Desk) (s : State) : State :=
  loseLink d (loseMessage d (setDesk d (raiseCounts (s.desk d)) s))

/-! ### Reply queue and transmitter -/

/-- The reply to a decided command (R164). -/
def replyOf (op : Op) (line : Byte) (r : Decision) : Reply :=
  ⟨opCode op, line, r.result, r.clamped, r.data⟩

/-- The reply to a command a controller refuses (R162, R164). -/
def refusal (code line : Byte) (r : Result) : Reply := ⟨code, line, r, false, []⟩

/-- A place added at the tail of the reply queue (R163). -/
def addPlace (d : Desk) (p : Place) (s : State) : State :=
  setDesk d { s.desk d with replies := (s.desk d).replies ++ [p] } s

/-- All 16 reply places are taken (R163). -/
def repliesFull (c : Controller) : Bool := Config.replyPlaces ≤ c.replies.length

/-- A good command that finds all 16 places taken is discarded unexecuted (R163). -/
def discardCommand (d : Desk) (s : State) : State := setDesk d { s.desk d with discarded := true } s

/-- The idle transmitter starts the filled head reply, marks it if the discarded flag is set, and clears the
flag (R163, R165). -/
def startReply (d : Desk) (s : State) : State :=
  let c := s.desk d
  match c.tx, c.replies with
  | .idle, .ready r :: rest =>
    setDesk d { c with tx := .sending (replyBytes r c.discarded), replies := rest, discarded := false } s
  | _, _ => s

/-- The head place of the reply queue is filled (R165). -/
def headFilled (c : Controller) : Bool :=
  match c.replies with
  | .ready _ :: _ => true
  | _ => false

/-- The idle transmitter, with no filled head reply, takes the oldest notice out of the queue and starts it
(R165). -/
def startNotice (d : Desk) (s : State) : State :=
  let c := s.desk d
  match c.tx, headFilled c, c.notices with
  | .idle, false, n :: rest => setDesk d { c with tx := .sending (noticeBytes n), notices := rest } s
  | _, _, _ => s

/-- The transmitter finishes its message and is idle (R165). -/
def finishSending (d : Desk) (s : State) : State := setDesk d { s.desk d with tx := .idle } s

end Sys2Proof.Machine
end

