-- ==== Sys2Proof/Machine/Lanes.lean ====
section
/-! DEFINITION. The Lane Interface and the Slot Map: lane input, lock judgements, the clock, the reference
lane, and the two maps with their pending changes (chapter 8). -/

namespace Sys2Proof.Machine

/-! ### Input frames -/

/-- The audio, VALID and CONNECTED of an input slot; bits 5 to 0 are not read (R146). -/
def readSlot (w : SlotWord) : SlotIn := ⟨w.extractLsb' 8 24, w.getLsbD 7, w.getLsbD 6⟩

/-- The lane and number of the i-th of the 64 slots. -/
def laneOfIndex (i : Fin 64) : Lane := ⟨i.val / 16, by omega⟩
def numOfIndex (i : Fin 64) : Fin 16 := ⟨i.val % 16, by omega⟩

/-- One input frame: each lane counts as locked when its sync came aligned, and an unlocked lane's slots are
not read (R148). The results of the block so far are carried on. -/
def takeFrame (lanes : Vector LaneIn 4) (l : LaneInterface) : LaneInterface :=
  let input : Vector SlotIn 64 := Vector.ofFn fun i =>
    if (lanes[laneOfIndex i]).aligned then readSlot (lanes[laneOfIndex i]).slots[numOfIndex i] else SlotIn.silent
  { l with
    frames := riseTo Config.framesPerBlock l.frames
    input := input
    locked := Vector.ofFn fun i => (lanes[i]).aligned
    lockedSoFar := Vector.ofFn fun i => l.lockedSoFar[i] && (lanes[i]).aligned
    validSoFar := Vector.ofFn fun i => l.validSoFar[i] && (input[i]).valid }

/-- The lane counted as locked in all 48 frames of the block: its judgement is LOCKED (R148). -/
def laneLocked (s : State) (i : Lane) : Bool :=
  s.lanes.frames == Config.framesPerBlock && s.lanes.lockedSoFar[i]

/-- The slot's lane was LOCKED for the block and the slot carried VALID 1 in all 48 frames (R102, R133). -/
def slotGood (s : State) (a : Slot) : Bool := laneLocked s a.lane && s.lanes.validSoFar[slotIndex a]

/-- The CONNECTED bit of the slot in the last frame of the block (R135). -/
def slotConnected (s : State) (a : Slot) : Bool := (s.lanes.input[slotIndex a]).connected

/-- A role's sample for the frame: its slot's audio when the role is assigned, the slot carried VALID 1 and
the lane counted as locked, and 0 otherwise (R80, R132). -/
def roleSample (s : State) (role : Fin 44) : Int :=
  match s.maps.input[role] with
  | none => 0
  | some a =>
    let i := s.lanes.input[slotIndex a]
    if i.valid && s.lanes.locked[a.lane] then i.audio.toInt else 0

/-! ### Block start and block end of the Lane Interface -/

/-- The counter rises by 1 and the block's own results start afresh (R147). -/
def startBlock (l : LaneInterface) : LaneInterface :=
  { l with
    block := l.block + 1
    frames := 0
    lockedSoFar := Vector.ofFn fun _ => true
    validSoFar := Vector.ofFn fun _ => true }

/-- FREE-RUN with the relock count at 250 becomes REFERENCED, with a CLOCK notice (R149). -/
def relockClock (s : State) : State :=
  if s.lanes.clock = .freeRun ∧ s.lanes.relock = Config.relockBlocks then
    offerAll (.clock .referenced s.lanes.refLane) (s.withLanes { s.lanes with clock := .referenced })
  else s

/-- REFERENCED with the reference lane judged UNLOCKED becomes FREE-RUN, with a CLOCK notice (R149). -/
def loseReference (s : State) : State :=
  if s.lanes.clock = .referenced ∧ s.lanes.judged[s.lanes.refLane] = false then
    offerAll (.clock .freeRun s.lanes.refLane) (s.withLanes { s.lanes with clock := .freeRun })
  else s

/-- The lanes judged, their unlocked-block counts and the relock count moved (R148, R149). -/
def judgeLanes (s : State) : LaneInterface :=
  let l := s.lanes
  { l with
    judged := Vector.ofFn fun i => laneLocked s i
    unlocked := Vector.ofFn fun i => if laneLocked s i then l.unlocked[i] else riseTo Config.maxCount l.unlocked[i]
    relock := if laneLocked s l.refLane then riseTo Config.relockBlocks l.relock else 0 }

/-- The Lane Interface's block-end step: judgements, counts, then one test of the clock state (R148,
R149). -/
def lanesBlockEnd (s : State) : State :=
  let t := s.withLanes (judgeLanes s)
  match s.lanes.clock with
  | .referenced => loseReference t
  | .freeRun => relockClock t

/-- A pending reference lane takes effect at a block start (R150). -/
def applyReference (s : State) : State :=
  match s.lanes.pendingRef with
  | none => s
  | some r =>
    offerAll (.clock .freeRun r)
      (s.withLanes { s.lanes with refLane := r, pendingRef := none, relock := 0, clock := .freeRun })

/-- SET-CLOCK (R150). -/
def decideSetClock (_snd : Sender) (_line : Byte) (args : List Byte) (s : State) : Decision :=
  match args.head?.bind laneOfByte with
  | none => refuse .badValue s
  | some r =>
    let next := if r = s.lanes.refLane then none else some r
    taken [byteOf r.val] (s.withLanes { s.lanes with pendingRef := next })

/-! ### The input role map -/

/-- The role's next value: its pending change when one is present, its value in effect otherwise (R152). -/
def nextInput (s : State) (role : Fin 44) : Option Slot :=
  match s.maps.inPending[role] with
  | some v => v
  | none => s.maps.input[role]

/-- The line whose path a role is, for roles 0 to 31 (R151). -/
def lineOfRole (role : Fin 44) : Option Line :=
  if role.val < 32 then some ⟨role.val % 16, by omega⟩ else none

/-- The line path role belongs to a line that is not FREE (R152, step 4). -/
def roleBusy (s : State) (role : Fin 44) : Bool :=
  match lineOfRole role with
  | some n => !isFree (s.line n).state
  | none => false

/-- The value a MAP-INPUT's lane and slot bytes carry: UNASSIGNED for a lane byte of 255; none when they are
outside their ranges (R152). -/
def inputValue (lane num : Byte) : Option (Option Slot) :=
  if lane = 255 then some none else (slotOfBytes lane num).map some

/-- MAP-INPUT (R152). -/
def decideMapInput (_snd : Sender) (_line : Byte) (args : List Byte) (s : State) : Decision :=
  match args with
  | [role, lane, num] =>
    if h : role.toNat < 44 then
      let r : Fin 44 := ⟨role.toNat, h⟩
      match inputValue lane num with
      | none => refuse .badValue s
      | some v =>
        if v = nextInput s r then taken args s
        else if roleBusy s r then refuse .busy s
        else taken args (s.withMaps { s.maps with inPending := s.maps.inPending.set r (some v) })
    else refuse .badValue s
  | _ => refuse .badValue s

/-- MAP-OUTPUT (R155). -/
def decideMapOutput (_snd : Sender) (_line : Byte) (args : List Byte) (s : State) : Decision :=
  match args with
  | [lane, num, code, p, q] =>
    match slotOfBytes lane num, outFnOfBytes code p q with
    | some a, some f =>
      taken args (s.withMaps { s.maps with outPending := s.maps.outPending.set (slotIndex a) (some f) })
    | _, _ => refuse .badValue s
  | _ => refuse .badValue s

/-- Every pending output function enters the map in effect, and none is left pending (R155). -/
def applyOutputMap (m : SlotMap) : SlotMap :=
  { m with
    output := Vector.ofFn fun i => (m.outPending[i]).getD m.output[i]
    outPending := Vector.ofFn fun _ => none }

/-- Every pending input change enters the map in effect, and none is left pending (R153). -/
def applyInputMap (m : SlotMap) : SlotMap :=
  { m with
    input := Vector.ofFn fun i => (m.inPending[i]).getD m.input[i]
    inPending := Vector.ofFn fun _ => none }

/-- A role's slot changes from the one map to the other; a change equal to the value in effect is none
(R153). -/
def roleChanges (old new : SlotMap) (role : Fin 44) : Bool := old.input[role] != new.input[role]

/-- The roles whose slot changes from the one map to the other (R153). -/
def changedRoles (old new : SlotMap) : List (Fin 44) := (List.finRange 44).filter (roleChanges old new)

/-- The map-changed event to the Line Table, when any role's slot changes (R153). -/
def mapEvents (old new : SlotMap) : List (List (Fin 44)) :=
  if changedRoles old new = [] then [] else [changedRoles old new]

/-! ### Output frames -/

/-- An output slot's 32 bits: audio, VALID in bit 7, RELEASE in bit 5, the rest sent 0 (R146). -/
def slotWord (audio : AudioField) (valid release : Bool) : SlotWord :=
  audio ++ (BitVec.ofBool valid ++ (0 : BitVec 1) ++ BitVec.ofBool release ++ (0 : BitVec 5))

/-- What an output slot carries of a computation's results, by its function (R154). -/
def outputWord (f : OutFn) (r : Results) : SlotWord :=
  match f with
  | .none => 0
  | .ret n => slotWord (BitVec.ofInt 24 (r.returns[n]).audio) (r.returns[n]).valid (r.returns[n]).release
  | .airMix x => slotWord (BitVec.ofInt 24 r.groups[groupIndex (.air x)]) true false
  | .privMix x => slotWord (BitVec.ofInt 24 r.groups[groupIndex (.priv x)]) true false
  | .screenMix => slotWord (BitVec.ofInt 24 r.groups[groupIndex .screen]) true false
  | .copy a => slotWord (r.copies[slotIndex a]).audio (r.copies[slotIndex a]).valid false

/-- The output frame: every slot filled from its function in effect with the previous computation's results
(R154, R156). -/
def outputFrame (s : State) : Vector SlotWord 64 :=
  Vector.ofFn fun i => outputWord s.maps.output[i] s.mix.results

end Sys2Proof.Machine
end

