-- ==== Sys2Proof/Machine/Paths.lean ====
section
/-! DEFINITION. The Path Monitor: the input sample, the block-end step over every line's paths, the changes
of role and the restarts (chapter 7). -/

namespace Sys2Proof.Machine

/-- The record of one of a line's paths. -/
def pathOf (p : PathLine) : PathSide → PathRec
  | .primary => p.primary
  | .alternate => p.alternate

/-- The other path. -/
def otherSide : PathSide → PathSide
  | .primary => .alternate
  | .alternate => .primary

/-- The role of a line's path (R131). -/
def pathRole (n : Line) : PathSide → Fin 44
  | .primary => primaryRole n
  | .alternate => alternateRole n

/-- The sample of line n for the frame: the active path's role sample, and 0 for a line that is not equipped
(R79, R132). -/
def lineSample (s : State) (n : Line) : Int :=
  if equipped s n then roleSample s (pathRole n (s.paths[n]).active) else 0

/-! ### The block-end step, part by part -/

/-- A path's judgement for the block just ended (R133). -/
def judgePath (s : State) (n : Line) (side : PathSide) : Judgement :=
  match equipped s n, s.maps.input[pathRole n side] with
  | true, some a => if slotGood s a then .good else .bad
  | _, _ => .none

/-- A path's connected value after the block end (R135). -/
def pathConnected (s : State) (n : Line) (side : PathSide) (held : Bool) : Bool :=
  match equipped s n, s.maps.input[pathRole n side] with
  | true, some a => if laneLocked s a.lane then slotConnected s a else held
  | _, _ => false

/-- The judgement kept and the runs moved (R133, R134). -/
def moveRuns (j : Judgement) (p : PathRec) : PathRec :=
  match j with
  | .good => { p with judgement := j, goodRun := riseTo Config.maxCount p.goodRun, badRun := 0 }
  | .bad => { p with judgement := j, goodRun := 0, badRun := riseTo Config.maxCount p.badRun }
  | .none => { p with judgement := j, goodRun := 0, badRun := 0 }

/-- Both runs of a path become 0 (R137, R139). -/
def zeroRuns (p : PathRec) : PathRec := { p with goodRun := 0, badRun := 0 }

/-- A pending mode takes effect (R137). -/
def applyMode (p : PathLine) : PathLine :=
  match p.pending with
  | none => p
  | some m =>
    { p with
      mode := m
      pending := none
      primary := zeroRuns p.primary
      alternate := zeroRuns p.alternate
      active := match m with
        | .primary => .primary
        | .alternate => .alternate
        | .auto => p.active }

/-- Both paths judged, their runs moved and their connected values set (R133 to R135). -/
def judgePaths (s : State) (n : Line) (p : PathLine) : PathLine :=
  { p with
    primary := { moveRuns (judgePath s n .primary) p.primary with
      connected := pathConnected s n .primary p.primary.connected }
    alternate := { moveRuns (judgePath s n .alternate) p.alternate with
      connected := pathConnected s n .alternate p.alternate.connected } }

/-- The active path's bad run stands at or above the fail threshold (R136, R138). -/
def activeFailed (p : PathLine) : Bool := p.failThr ≤ (pathOf p p.active).badRun

/-- The failover test of R136. -/
def failoverDue (p : PathLine) : Bool :=
  p.mode == .auto && activeFailed p && (pathOf p (otherSide p.active)).judgement == .good

/-- The revert test of R136, made when no failover is taken. -/
def revertDue (p : PathLine) : Bool :=
  p.mode == .auto && !failoverDue p && p.active == .alternate && p.autoRevert && p.revertThr ≤ p.primary.goodRun

/-- Failover: the other path becomes the active path (R136). -/
def failoverLine (p : PathLine) : PathLine := if failoverDue p then { p with active := otherSide p.active } else p

/-- Revert: the primary becomes the active path (R136). -/
def revertLine (p : PathLine) : PathLine := if revertDue p then { p with active := .primary } else p

/-- At most one switch of the active path (R136). -/
def chooseActive (p : PathLine) : PathLine := if failoverDue p then failoverLine p else revertLine p

/-- The input fault after the active path has been chosen (R138). -/
def judgeFault (s : State) (n : Line) (p : PathLine) : PathLine :=
  { p with fault := equipped s n && activeFailed p }

/-- The line is connected in the block (R141). -/
def lineConnected (s : State) (n : Line) (p : PathLine) : Bool :=
  equipped s n && (p.primary.connected || p.alternate.connected)

/-- The arrival and gone counts moved by the line's state (R141, R142). -/
def moveCounts (s : State) (n : Line) (p : PathLine) : PathLine :=
  if isFree (s.line n).state then
    { p with arrival := if lineConnected s n p then riseTo Config.arrivalBlocks p.arrival else 0 }
  else
    { p with gone := if lineConnected s n p then 0 else riseTo Config.goneBlocks p.gone }

/-- The Path Monitor's block-end work for one line, before it reports (section 7.3). -/
def pathLineEnd (s : State) (n : Line) (p : PathLine) : PathLine :=
  moveCounts s n (judgeFault s n (chooseActive (judgePaths s n (applyMode p))))

/-- The active path or the input fault differs from the last reported one (R140). -/
def pathReportDue (p : PathLine) : Bool := p.active != p.lastActive || p.fault != p.lastFault

/-- The last reported values take the present ones (R140). -/
def markReported (p : PathLine) : PathLine := { p with lastActive := p.active, lastFault := p.fault }

/-- The PATH notice of a line (R140). -/
def pathNotice (n : Line) (p : PathLine) : Notice :=
  .path n p.active p.primary.judgement p.alternate.judgement p.fault

/-- The party events of a line at this block end: present when the arrival count reaches 20, gone when the
gone count reaches 200 (R141, R142). -/
def partyEvents (n : Line) (old new : PathLine) : List PartyEvent :=
  (if old.arrival ≠ Config.arrivalBlocks ∧ new.arrival = Config.arrivalBlocks then [.present n] else []) ++
  (if old.gone ≠ Config.goneBlocks ∧ new.gone = Config.goneBlocks then [.gone n] else [])

/-- The Path Monitor's block-end step for all 16 lines, taken whole: the PATH notices go out first, then the
party events, each in ascending line order (R140). -/
def pathsBlockEnd (s : State) : State :=
  let new : Vector PathLine 16 := Vector.ofFn fun n => pathLineEnd s n s.paths[n]
  let notices := (allLines.filter (fun n => pathReportDue new[n])).map (fun n => pathNotice n new[n])
  let t := offerMany notices (s.withPaths (Vector.ofFn fun n =>
    { markReported new[n] with tested := some s.lanes.block }))
  t.withWires { t.wires with
    parties := t.wires.parties ++ allLines.flatMap (fun n => partyEvents n s.paths[n] new[n]) }

/-! ### What comes about inside the block-end step, as rows of their own (log entry 5)

Each of these rows is the block-end step in which the thing it names comes about. The step is taken whole and once
(section 7.3), so a setting changed after its tests waits for the next. -/

/-- The block has ended and the Path Monitor has not yet made its block-end step (R147, section 7.3). -/
def pathsEndDue (s : State) : Bool :=
  s.lanes.frames == Config.framesPerBlock && allLines.all (fun n => (s.paths[n]).tested != some s.lanes.block)

/-- A line's paths as the tests of R136 find them: the pending mode applied, both paths judged, their runs moved. -/
def judgedLine (n : Line) (s : State) : PathLine := judgePaths s n (applyMode s.paths[n])

/-- The block-end step in which a pending mode of the line takes effect (R137). -/
def pendingModeStep (n : Line) (s : State) : State :=
  if pathsEndDue s && (s.paths[n]).pending.isSome then pathsBlockEnd s else s

/-- The block-end step in which the line fails over (R136). -/
def failoverStep (n : Line) (s : State) : State :=
  if pathsEndDue s && failoverDue (judgedLine n s) then pathsBlockEnd s else s

/-- The block-end step in which the line reverts to its primary path (R136). -/
def revertStep (n : Line) (s : State) : State :=
  if pathsEndDue s && revertDue (judgedLine n s) then pathsBlockEnd s else s

/-! ### Changes of role and restarts -/

/-- A path whose role slot changed: runs and connected value become 0, the judgement stays (R139). -/
def restartPath (p : PathRec) : PathRec := { zeroRuns p with connected := false }

/-- The alternate role is now UNASSIGNED (R139). -/
def loseAlternate (p : PathLine) : PathLine :=
  { p with
    active := .primary
    mode := if p.mode = .alternate ∨ p.pending = some .alternate then .auto else p.mode
    pending := if p.mode = .alternate ∨ p.pending = some .alternate then none else p.pending }

/-- The primary role is now UNASSIGNED: the line is no longer equipped (R139). -/
def losePrimary (p : PathLine) : PathLine :=
  { p with
    primary := restartPath p.primary
    alternate := restartPath p.alternate
    active := .primary
    arrival := 0
    gone := 0
    mode := .auto
    pending := none }

/-- A line's paths when the new map takes effect (R139). -/
def remapLine (old new : SlotMap) (n : Line) (p : PathLine) : PathLine :=
  let pc := roleChanges old new (primaryRole n)
  let ac := roleChanges old new (alternateRole n)
  let p := if pc then { p with primary := restartPath p.primary } else p
  let p := if ac then { p with alternate := restartPath p.alternate } else p
  let p := if ac && (new.input[alternateRole n]).isNone then loseAlternate p else p
  if pc && (new.input[primaryRole n]).isNone then losePrimary p else p

/-- The Path Monitor takes a restart for a line moved to or from FREE (R143). -/
def restartLine (toFree : Bool) (p : PathLine) : PathLine :=
  { p with
    arrival := 0
    gone := 0
    pending := if toFree && (p.mode != .auto || p.pending.isSome) then some .auto else p.pending }

end Sys2Proof.Machine
end

