-- ==== Sys2Proof/Machine/Reads.lean ====
section
/-! DEFINITION. The read commands READ-LINE, READ-STUDIO and READ-METERS, with LINK-STATUS and SET-MASK,
and the data of their replies (R26, R50, R53, R113, R157, R169, R171, R175, R176). -/

namespace Sys2Proof.Machine

/-- The queue position READ-LINE gives: in the studio's queue when QUEUED, in the destination queue when
arriving, 0 otherwise (R26). -/
def queuePosition (s : State) (n : Line) : Nat :=
  match (s.line n).state with
  | .queued x => positionIn n (queueOf s.lines x)
  | .screen (.leaving (.queued x)) => positionIn n (queueOf s.lines x)
  | _ => 0

/-- The clearing count's two bytes, 65535 when absent (R169). -/
def clearingBytes : LineState → List Byte
  | .clearing c => bytes2 c
  | _ => [255, 255]

/-- The data of a READ-LINE reply (R26, R169). -/
def lineData (s : State) (n : Line) : List Byte :=
  let r := s.line n
  stateBytes r.state ++ [byteOf (queuePosition s n)] ++ clearingBytes r.state ++
  [studioByte r.home, boolByte (equipped s n)] ++ bytes2 r.level ++ bytes2 r.ret ++
  [deskOptByte (holderOf s n), sideByte (s.paths[n]).active, boolByte (s.paths[n]).fault] ++
  byteOf r.label.length :: r.label

/-- READ-LINE: step 1 of the check order alone (R13, R26). -/
def decideReadLine (_snd : Sender) (line : Byte) (_args : List Byte) (s : State) : Decision :=
  match lineOfByte line with
  | none => refuse .noLine s
  | some n => taken (lineData s n) s

/-- One group of the group part (R53, R169). -/
def groupBytes (s : State) (g : Group) : List Byte :=
  byteOf (occupancy s.lines g) :: byteOf (members s.lines g).length ::
  ((members s.lines g).flatMap (fun n => [lineByte n, phaseByte (phaseOf (s.line n).state)]) ++
   byteOf (holders s.lines g).length :: (holders s.lines g).map lineByte)

/-- A feed in the base-feed part: assigned, judgement, good run, bad run (R113). -/
def feedBytes (s : State) (role : Fin 44) (f : FeedRec) : List Byte :=
  [boolByte (s.maps.input[role]).isSome, boolByte f.good] ++ bytes2 f.goodRun ++ bytes2 f.badRun

/-- The base-feed part (R113, R169). -/
def baseFeedBytes (s : State) (x : Studio) : List Byte :=
  let c := s.ctx.studios.get x
  [baseByte c.base] ++ feedBytes s (stemRole x) c.stem ++ feedBytes s (safeRole x) c.safe ++
  [byteOf c.failThr] ++ bytes2 c.revertThr ++ [boolByte c.airConf, boolByte c.privConf, byteOf c.duck] ++
  bytes2 c.stemGain ++ bytes2 c.holdGain ++ bytes2 c.privGain ++
  [boolByte s.ctx.screen.conf, byteOf s.ctx.screen.duck] ++ bytes2 s.ctx.screen.gain

/-- The groups of the group part and the meter part, in their order (R53). -/
def studioGroups (x : Studio) : List Group := [.air x, .priv x, .screen]

/-- The meter part for a desk: output peak and clip count of each group (R169, R175). -/
def meterBytes (s : State) (d : Desk) (x : Studio) : List Byte :=
  (studioGroups x).flatMap (fun g =>
    bytes3 (s.mix.peaks[d]).group[groupIndex g] ++ bytes2 (s.mix.clips[groupOutput g]).count)

/-- The desk's output peaks of the three groups set to 0 (R175). -/
def clearGroupPeaks (d : Desk) (x : Studio) (s : State) : State :=
  let p := s.mix.peaks[d]
  s.withMix { s.mix with peaks := s.mix.peaks.set d { p with
    group := Vector.ofFn fun i => if (studioGroups x).any (fun g => groupIndex g == i) then 0 else p.group[i] } }

/-- READ-STUDIO (R50, R53, R113, R175). The Loader's reply is discarded and clears no peak (R179). -/
def decideReadStudio (snd : Sender) (_line : Byte) (args : List Byte) (s : State) : Decision :=
  match args.head?.bind studioOfByte with
  | none => refuse .badValue s
  | some x =>
    match snd with
    | .loader => taken [] s
    | .desk d =>
      taken (queueBytes (queueOf s.lines x) ++ (studioGroups x).flatMap (groupBytes s) ++ baseFeedBytes s x ++
        meterBytes s d x) (clearGroupPeaks d x s)

/-- The desk's input and return peak of the line set to 0 (R175). -/
def clearLinePeaks (d : Desk) (n : Line) (s : State) : State :=
  let p := s.mix.peaks[d]
  s.withMix { s.mix with peaks := s.mix.peaks.set d { p with input := p.input.set n 0, ret := p.ret.set n 0 } }

/-- READ-METERS (R175). The Loader has no peak set (R179). -/
def decideReadMeters (snd : Sender) (line : Byte) (_args : List Byte) (s : State) : Decision :=
  match lineOfByte line with
  | none => refuse .noLine s
  | some n =>
    match snd with
    | .loader => taken [] s
    | .desk d =>
      let p := s.mix.peaks[d]
      taken (bytes3 p.input[n] ++ bytes3 p.ret[n] ++ bytes2 (s.mix.clips[returnOutput n]).count)
        (clearLinePeaks d n s)

/-- The Loader is RUNNING. -/
def isRunning (l : Loader) : Bool := l.stage == .running

/-- One desk's 11 bytes of LINK-STATUS (R176). -/
def deskStatus (s : State) (d : Desk) : List Byte :=
  let c := s.desk d
  [linkByte c.link, boolByte c.strap] ++ bytes2 c.mask.toNat ++ [byteOf c.notices.length, byteOf c.overflow] ++
  bytes2 c.bad ++ bytes2 s.talk.gain[d] ++ [byteOf s.talk.timeout[d]]

/-- The stored load result's four bytes, result 255 while absent (R176). -/
def storedLoad : Option LoadResult → List Byte
  | none => [255, 0, 0, 0]
  | some r => loadBytes r

/-- The lane part of LINK-STATUS (R157, R176). -/
def laneStatus (l : LaneInterface) : List Byte :=
  [clockByte l.clock, byteOf l.refLane.val,
    match l.pendingRef with
    | some r => byteOf r.val
    | none => 255,
    byteOf l.relock] ++
  ([0, 1, 2, 3] : List Lane).flatMap (fun i => boolByte l.judged[i] :: bytes2 l.unlocked[i])

/-- The data of a LINK-STATUS reply, 58 bytes (R176). -/
def statusData (s : State) : List Byte :=
  bytes4 s.lanes.block.toNat ++ [boolByte (isRunning s.loader)] ++ storedLoad s.loader.result ++
  deskStatus s 0 ++ deskStatus s 1 ++ deskStatus s 2 ++ laneStatus s.lanes

/-- LINK-STATUS (R176). -/
def decideLinkStatus (_snd : Sender) (_line : Byte) (_args : List Byte) (s : State) : Decision :=
  taken (statusData s) s

/-- NOP (R168). -/
def decideNop (_snd : Sender) (_line : Byte) (_args : List Byte) (s : State) : Decision := taken [] s

/-- SET-MASK: the sender's own mask (R171). The Loader has none (R179). -/
def decideSetMask (snd : Sender) (_line : Byte) (args : List Byte) (s : State) : Decision :=
  match snd, args with
  | .loader, _ => refuse .notYours s
  | .desk d, [hi, lo] =>
    if wordOf hi lo < 2048 then
      taken [hi, lo] (setDesk d { s.desk d with mask := BitVec.ofNat 16 (wordOf hi lo) } s)
    else refuse .badValue s
  | .desk _, _ => refuse .badValue s

end Sys2Proof.Machine
end

