-- ==== Sys2Proof/Machine/Settings.lean ====
section
/-! DEFINITION. The line settings commands (section 1.7), FORCE-PATH (R144), SET-PATH-TIMING (R145) and the
context commands (section 5.5, R128). -/

namespace Sys2Proof.Machine

/-! ### Line settings -/

/-- A settings command past step 5: refused WRONG-STATE on a CLEARING line (R15), else its effect. -/
def settingCommand (op : Op) (snd : Sender) (line : Byte) (s : State) (body : Line → Decision) : Decision :=
  lineCommand op snd line s fun n =>
    if isClearing (s.line n).state then refuse .wrongState s else body n

/-- SET-LEVEL (R22). -/
def decideSetLevel (snd : Sender) (line : Byte) (args : List Byte) (s : State) : Decision :=
  match args with
  | [hi, lo] =>
    settingCommand .setLevel snd line s fun n =>
      let v := clampGain (wordOf hi lo)
      takenClamped (v != wordOf hi lo) (bytes2 v) (commit (setRec n { s.line n with level := v } s.lines) s)
  | _ => refuse .badValue s

/-- SET-RETURN (R23). -/
def decideSetReturn (snd : Sender) (line : Byte) (args : List Byte) (s : State) : Decision :=
  match args with
  | [hi, lo] =>
    settingCommand .setReturn snd line s fun n =>
      let v := clampGain (wordOf hi lo)
      takenClamped (v != wordOf hi lo) (bytes2 v) (commit (setRec n { s.line n with ret := v } s.lines) s)
  | _ => refuse .badValue s

/-- SET-LABEL (R24). -/
def decideSetLabel (snd : Sender) (line : Byte) (args : List Byte) (s : State) : Decision :=
  if args.all printable then
    settingCommand .setLabel snd line s fun n =>
      let text := args.take Config.labelLength
      takenClamped (args.length != text.length) [byteOf text.length]
        (commit (setRec n { s.line n with label := text } s.lines) s)
  else refuse .badValue s

/-- SET-HOME (R25). -/
def decideSetHome (snd : Sender) (line : Byte) (args : List Byte) (s : State) : Decision :=
  match args.head?.bind studioOfByte with
  | none => refuse .badValue s
  | some x =>
    lineCommand .setHome snd line s fun n =>
      match (s.line n).state with
      | .waiting | .hold => taken [] (commit (setRec n { s.line n with home := x } s.lines) s)
      | _ => refuse .wrongState s

/-! ### Path settings -/

/-- The Path Monitor takes a path mode: it becomes the pending mode, unless it is the mode in force and none
is pending (R144). -/
def takeMode (m : PathMode) (p : PathLine) : PathLine :=
  if p.mode = m ∧ p.pending = none then p else { p with pending := some m }

/-- FORCE-PATH (R144). -/
def decideForcePath (snd : Sender) (line : Byte) (args : List Byte) (s : State) : Decision :=
  match args.head?.bind modeOfByte with
  | none => refuse .badValue s
  | some m =>
    settingCommand .forcePath snd line s fun n =>
      if m = .alternate ∧ s.maps.input[alternateRole n] = none then refuse .wrongState s
      else taken [modeByte m] (setPath n (takeMode m s.paths[n]) s)

/-- The three timing values replaced on one line (R145). -/
def withTiming (failThr revertThr : Nat) (auto : Bool) (p : PathLine) : PathLine :=
  { p with failThr := failThr, revertThr := revertThr, autoRevert := auto }

/-- SET-PATH-TIMING (R145). Line byte 0 names all lines. -/
def decideSetPathTiming (_snd : Sender) (line : Byte) (args : List Byte) (s : State) : Decision :=
  match args with
  | [fail, hi, lo, auto] =>
    match switchOfByte auto with
    | none => refuse .badValue s
    | some on =>
      if 16 < line.toNat then refuse .noLine s
      else
        let f := clampFail fail.toNat
        let r := clampRevert (wordOf hi lo)
        takenClamped (f != fail.toNat || r != wordOf hi lo) (byteOf f :: (bytes2 r ++ [boolByte on]))
          (s.withPaths (Vector.ofFn fun n =>
            if line.toNat = 0 ∨ line.toNat = lineNumber n then withTiming f r on s.paths[n] else s.paths[n]))
  | _ => refuse .badValue s

/-! ### Context settings -/

/-- The sender may set the context: the studio's or the screening desk, an ENG-permitted desk, the Loader
(R109). -/
def maySetContext (s : State) (snd : Sender) (c : Context) : Bool :=
  match snd with
  | .loader => true
  | .desk d =>
    (s.desk d).strap ||
      (match c with
       | .studio x => d == deskOf x
       | .screen => d == 2)

/-- A context command whose arguments passed check 1: check 2, then its effect (R109). -/
def contextCommand (snd : Sender) (c : Context) (s : State) (body : Decision) : Decision :=
  if maySetContext s snd c then body else refuse .notYours s

/-- The record that a conference selector names, with the setting replaced; none for a pairing of selector
and context that is not legal (R110). -/
def withConf (c : Context) (sel : Byte) (on : Bool) (ctx : ContextStore) : Option ContextStore :=
  match c, sel.toNat with
  | .studio x, 0 =>
    some { ctx with studios := ctx.studios.set x { ctx.studios.get x with airConf := on } }
  | .studio x, 1 =>
    some { ctx with studios := ctx.studios.set x { ctx.studios.get x with privConf := on } }
  | .screen, 2 => some { ctx with screen := { ctx.screen with conf := on } }
  | _, _ => none

/-- SET-CONF (R110). -/
def decideSetConf (snd : Sender) (_line : Byte) (args : List Byte) (s : State) : Decision :=
  match args with
  | [c, sel, sw] =>
    match contextOfByte c, switchOfByte sw with
    | some c, some on =>
      match withConf c sel on s.ctx with
      | none => refuse .badValue s
      | some ctx => contextCommand snd c s (taken [boolByte on] (s.withCtx ctx))
    | _, _ => refuse .badValue s
  | _ => refuse .badValue s

/-- The record that a gain selector names, with the target replaced; none for a pairing of selector and
context that is not legal (R112). -/
def withCtxGain (c : Context) (sel : Byte) (v : Nat) (ctx : ContextStore) : Option ContextStore :=
  match c, sel.toNat with
  | .studio x, 0 => some { ctx with studios := ctx.studios.set x { ctx.studios.get x with stemGain := v } }
  | .studio x, 1 => some { ctx with studios := ctx.studios.set x { ctx.studios.get x with holdGain := v } }
  | .studio x, 2 => some { ctx with studios := ctx.studios.set x { ctx.studios.get x with privGain := v } }
  | .screen, 3 => some { ctx with screen := { ctx.screen with gain := v } }
  | _, _ => none

/-- SET-CTX-GAIN (R112). -/
def decideSetCtxGain (snd : Sender) (_line : Byte) (args : List Byte) (s : State) : Decision :=
  match args with
  | [c, sel, hi, lo] =>
    match contextOfByte c with
    | none => refuse .badValue s
    | some c =>
      let v := clampGain (wordOf hi lo)
      match withCtxGain c sel v s.ctx with
      | none => refuse .badValue s
      | some ctx => contextCommand snd c s (takenClamped (v != wordOf hi lo) (bytes2 v) (s.withCtx ctx))
  | _ => refuse .badValue s

/-- The context's duck depth replaced (R128). -/
def withDuck (c : Context) (v : Nat) (ctx : ContextStore) : ContextStore :=
  match c with
  | .studio x => { ctx with studios := ctx.studios.set x { ctx.studios.get x with duck := v } }
  | .screen => { ctx with screen := { ctx.screen with duck := v } }

/-- SET-DUCK (R128). -/
def decideSetDuck (snd : Sender) (_line : Byte) (args : List Byte) (s : State) : Decision :=
  match args with
  | [c, depth] =>
    match contextOfByte c with
    | none => refuse .badValue s
    | some c =>
      let v := clampDuck depth.toNat
      contextCommand snd c s (takenClamped (v != depth.toNat) [byteOf v] (s.withCtx (withDuck c v s.ctx)))
  | _ => refuse .badValue s

/-- SET-STEM-TIMING (R111). -/
def decideSetStemTiming (snd : Sender) (_line : Byte) (args : List Byte) (s : State) : Decision :=
  match args with
  | [c, fail, hi, lo] =>
    match contextOfByte c with
    | some (.studio x) =>
      let f := clampFail fail.toNat
      let r := clampRevert (wordOf hi lo)
      contextCommand snd (.studio x) s
        (takenClamped (f != fail.toNat || r != wordOf hi lo) (byteOf f :: bytes2 r)
          (setStudio x { s.ctx.studios.get x with failThr := f, revertThr := r } s))
    | _ => refuse .badValue s
  | _ => refuse .badValue s

end Sys2Proof.Machine
end

