-- ==== Sys2Proof/Machine/Screening.lean ====
section
/-! DEFINITION. The screening commands and GIVE as the Line Table decides them (chapter 2), with DROP in
every state it acts on (R42, R43, R62, R67). Each definition gives steps 6 and 7 of the check order and the
effect; lineCommand has made steps 1 to 5. -/

namespace Sys2Proof.Machine

/-- The line joins a group at once as a steady member when the group has room (R33, R56, R59). -/
def joinGroup (g : Group) (st : LineState) (n : Line) (data : List Byte) (s : State) : Decision :=
  if groupHasRoom s.lines g then taken data (commit (setState n st s.lines) s) else refuse .full s

/-- A QUEUED line joins a group at once as a steady member when the group has room; its entry leaves its queue
in the same step (R29, R39, R55, R59). -/
def joinFromQueue (g : Group) (st : LineState) (n : Line) (data : List Byte) (s : State) : Decision :=
  if groupHasRoom s.lines g then taken data (commit (setState n st (dropEntry n s.lines)) s)
  else refuse .full s

/-- ANSWER (R33). -/
def decideAnswer (snd : Sender) (line : Byte) (_args : List Byte) (s : State) : Decision :=
  lineCommand .answer snd line s fun n =>
    match (s.line n).state with
    | .waiting | .hold => joinGroup .screen (.screen .steady) n [] s
    | _ => refuse .wrongState s

/-- HOLD (R34, R35). -/
def decideHold (snd : Sender) (line : Byte) (_args : List Byte) (s : State) : Decision :=
  lineCommand .hold snd line s fun n =>
    match (s.line n).state with
    | .waiting => taken [] (commit (setState n .hold s.lines) s)
    | .screen .steady => taken [] (commit (startLeave n .hold s.lines) s)
    | _ => refuse .wrongState s

/-- The reply data of a command that gives a line a place: its position (R36). -/
def positionData (n : Line) (x : Studio) (t : State) : List Byte :=
  [byteOf (positionIn n (queueOf t.lines x))]

/-- A QUEUED line moved to the tail of the named queue, its own or the other (R38, R41). -/
def moveToTail (n : Line) (own named : Studio) (s : State) : Decision :=
  let moved := commit (setState n (.queued named) (addEntry named n false (dropEntry n s.lines))) s
  if own = named ∨ queueHasRoom s.lines named = true then taken (positionData n named moved) moved
  else refuse .full s

/-- QUEUE (R36 to R38). -/
def decideQueue (snd : Sender) (line : Byte) (args : List Byte) (s : State) : Decision :=
  match args.head?.bind studioOfByte with
  | none => refuse .badValue s
  | some x =>
    lineCommand .queue snd line s fun n =>
      match (s.line n).state with
      | .waiting | .hold =>
        let t := commit (setState n (.queued x) (addEntry x n false s.lines)) s
        if queueHasRoom s.lines x then taken (positionData n x t) t else refuse .full s
      | .screen .steady =>
        let t := commit (startLeave n (.queued x) (addEntry x n true s.lines)) s
        if queueHasRoom s.lines x then taken (positionData n x t) t else refuse .full s
      | .queued y => if (senderStudio snd).isSome then refuse .wrongState s else moveToTail n y x s
      | _ => refuse .wrongState s

/-- RECALL (R39). -/
def decideRecall (snd : Sender) (line : Byte) (_args : List Byte) (s : State) : Decision :=
  lineCommand .recall snd line s fun n =>
    match (s.line n).state with
    | .queued _ =>
      if (senderStudio snd).isSome then refuse .wrongState s else joinFromQueue .screen (.screen .steady) n [] s
    | _ => refuse .wrongState s

/-- PROMOTE (R40). -/
def decidePromote (snd : Sender) (line : Byte) (_args : List Byte) (s : State) : Decision :=
  lineCommand .promote snd line s fun n =>
    match (s.line n).state with
    | .queued x => taken [1] (commit (promoteEntry x n s.lines) s)
    | _ => refuse .wrongState s

/-- GIVE (R41). -/
def decideGive (snd : Sender) (line : Byte) (args : List Byte) (s : State) : Decision :=
  match args.head?.bind studioOfByte with
  | none => refuse .badValue s
  | some x =>
    lineCommand .give snd line s fun n =>
      match (s.line n).state with
      | .queued y => if (senderStudio snd).isSome then moveToTail n y x s else refuse .wrongState s
      | _ => refuse .wrongState s

/-- DROP on a group member: a leave toward CLEARING from STEADY, a retarget from LEAVING, which releases the
reservation or the arriving entry and leaves the tag and the fade as they are (R43, R62, R67). -/
def dropMember (n : Line) (s : State) : Decision :=
  match destOf (s.line n).state with
  | none => taken [] (commit (startLeave n .clearing s.lines) s)
  | some _ =>
    taken [] (commit (setState n (withPhase (.leaving .clearing) (s.line n).state) (dropEntry n s.lines)) s)

/-- DROP (R42, R43, R62, R67). -/
def decideDrop (snd : Sender) (line : Byte) (_args : List Byte) (s : State) : Decision :=
  lineCommand .drop snd line s fun n =>
    match (s.line n).state with
    | .waiting | .hold | .queued _ => taken [] (commit (enterClearing n s.lines) s)
    | .screen _ | .air _ _ | .priv _ _ => dropMember n s
    | .free | .clearing _ => refuse .wrongState s

end Sys2Proof.Machine
end

