-- ==== Sys2Proof/Machine/Studio.lean ====
section
/-! DEFINITION. The studio commands as the Line Table decides them: TAKE, TAKE-NEXT, PRIVATE and PARK
(chapter 3). -/

namespace Sys2Proof.Machine

/-- A steady member starts a leave into a group of the same studio, when that group has room for the
reservation (R57, R60). -/
def leaveInto (g : Group) (t : Dest) (n : Line) (data : List Byte) (s : State) : Decision :=
  if groupHasRoom s.lines g then taken data (commit (startLeave n t s.lines) s) else refuse .full s

/-- Steps 6 and 7 and the effect of TAKE on line n, from the studio X desk (R54 to R57, R66). -/
def takeLine (x : Studio) (n : Line) (s : State) : Decision :=
  match (s.line n).state with
  | .queued y =>
    if y = x then joinFromQueue (.air x) (.air x .steady) n [lineByte n] s else refuse .wrongState s
  | .hold =>
    if (s.line n).home = x then joinGroup (.air x) (.air x .steady) n [lineByte n] s else refuse .wrongState s
  | .priv y .steady => if y = x then leaveInto (.air x) (.air x) n [lineByte n] s else refuse .wrongState s
  | .air y (.leaving _) =>
    if y = x then taken [lineByte n] (commit (setState n (.air x .steady) (dropEntry n s.lines)) s)
    else refuse .wrongState s
  | _ => refuse .wrongState s

/-- TAKE (R54 to R57, R66). The screen desk's TAKE is refused WRONG-STATE at step 6 (R13). -/
def decideTake (snd : Sender) (line : Byte) (_args : List Byte) (s : State) : Decision :=
  lineCommand .take snd line s fun n =>
    match senderStudio snd with
    | none => refuse .wrongState s
    | some x => takeLine x n s

/-- TAKE-NEXT: the head of the sender's queue, checked from step 2 onward as a TAKE (R13, R58). -/
def decideTakeNext (snd : Sender) (_line : Byte) (_args : List Byte) (s : State) : Decision :=
  match snd with
  | .loader => refuse .notYours s
  | .desk d =>
    match studioOfDesk d with
    | none => refuse .wrongState s
    | some x =>
      match queueOf s.lines x with
      | [] => refuse .empty s
      | e :: _ =>
        match refusalAt .take snd e.line s with
        | some r => refuse r s
        | none => takeLine x e.line s

/-- PRIVATE (R54, R59, R60). -/
def decidePrivate (snd : Sender) (line : Byte) (_args : List Byte) (s : State) : Decision :=
  lineCommand .privateTalk snd line s fun n =>
    match senderStudio snd, (s.line n).state with
    | some x, .queued y =>
      if y = x then joinFromQueue (.priv x) (.priv x .steady) n [] s else refuse .wrongState s
    | some x, .hold =>
      if (s.line n).home = x then joinGroup (.priv x) (.priv x .steady) n [] s else refuse .wrongState s
    | some x, .air y .steady => if y = x then leaveInto (.priv x) (.priv x) n [] s else refuse .wrongState s
    | _, _ => refuse .wrongState s

/-- A leave toward HOLD with the home studio set to the parking studio in the same step (R61). -/
def parkLine (x : Studio) (n : Line) (s : State) : State :=
  let lt := startLeave n .hold s.lines
  commit (setRec n { lt.recs[n] with home := x } lt) s

/-- PARK (R54, R61). -/
def decidePark (snd : Sender) (line : Byte) (_args : List Byte) (s : State) : Decision :=
  lineCommand .park snd line s fun n =>
    match senderStudio snd, (s.line n).state with
    | some x, .air y .steady => if y = x then taken [] (parkLine x n s) else refuse .wrongState s
    | some x, .priv y .steady => if y = x then taken [] (parkLine x n s) else refuse .wrongState s
    | _, _ => refuse .wrongState s

end Sys2Proof.Machine
end

