-- ==== Sys2Proof/Machine/Owners.lean ====
section
/-! DEFINITION. From message to owner: the controller's checks, the handing on, the owner's decision, the
filling of the reply place, and the Start-up Loader (R162, R163, chapter 11). -/

namespace Sys2Proof.Machine

/-! ### Owners -/

/-- The block that owns a command (R162, section 9.5). -/
def ownerOf : Op → Owner
  | .nop | .linkStatus | .setMask => .controller
  | .answer | .hold | .queue | .recall | .promote | .give | .take | .takeNext | .privateTalk | .park | .drop
  | .setLevel | .setReturn | .setLabel | .setHome | .forcePath | .readLine | .readStudio => .lineTable
  | .talkOn | .talkOff | .setTalkGain | .setTalkTimeout => .talkArbiter
  | .setConf | .setCtxGain | .setDuck | .setStemTiming => .contextStore
  | .readMeters => .mixEngine
  | .mapInput | .mapOutput => .slotMap
  | .setPathTiming => .pathMonitor
  | .setClock => .laneInterface
  | .loadConfig => .loader

/-- LOAD-CONFIG at the Loader: taken in RUNNING, refused STARTING in LOADING (R181). -/
def decideLoadConfig (_snd : Sender) (_line : Byte) (_args : List Byte) (s : State) : Decision :=
  if isRunning s.loader then taken [] (s.withLoader { s.loader with stage := .header ⟨[], s.lanes.block⟩ })
  else refuse .starting s

/-- An owner decides a command whole (R162). -/
def decideOp (op : Op) (snd : Sender) (line : Byte) (args : List Byte) (s : State) : Decision :=
  match op with
  | .nop => decideNop snd line args s
  | .answer => decideAnswer snd line args s
  | .hold => decideHold snd line args s
  | .queue => decideQueue snd line args s
  | .recall => decideRecall snd line args s
  | .promote => decidePromote snd line args s
  | .give => decideGive snd line args s
  | .take => decideTake snd line args s
  | .takeNext => decideTakeNext snd line args s
  | .privateTalk => decidePrivate snd line args s
  | .park => decidePark snd line args s
  | .drop => decideDrop snd line args s
  | .talkOn => decideTalkOn snd line args s
  | .talkOff => decideTalkOff snd line args s
  | .setLevel => decideSetLevel snd line args s
  | .setReturn => decideSetReturn snd line args s
  | .setLabel => decideSetLabel snd line args s
  | .setHome => decideSetHome snd line args s
  | .forcePath => decideForcePath snd line args s
  | .setConf => decideSetConf snd line args s
  | .setCtxGain => decideSetCtxGain snd line args s
  | .setDuck => decideSetDuck snd line args s
  | .setTalkGain => decideSetTalkGain snd line args s
  | .readLine => decideReadLine snd line args s
  | .readStudio => decideReadStudio snd line args s
  | .readMeters => decideReadMeters snd line args s
  | .linkStatus => decideLinkStatus snd line args s
  | .setMask => decideSetMask snd line args s
  | .mapInput => decideMapInput snd line args s
  | .mapOutput => decideMapOutput snd line args s
  | .setPathTiming => decideSetPathTiming snd line args s
  | .setStemTiming => decideSetStemTiming snd line args s
  | .setClock => decideSetClock snd line args s
  | .setTalkTimeout => decideSetTalkTimeout snd line args s
  | .loadConfig => decideLoadConfig snd line args s

/-! ### The controller's checks and the handing on (R162, R163) -/

/-- The commands the controller passes while the Loader is LOADING (R162, check 3). -/
def passesWhileLoading : Op → Bool
  | .nop | .readLine | .readStudio | .readMeters | .linkStatus => true
  | _ => false

/-- The configuration commands (R162, check 4). -/
def isConfiguration : Op → Bool
  | .mapInput | .mapOutput | .setPathTiming | .setStemTiming | .setClock | .setTalkTimeout | .loadConfig => true
  | _ => false

/-- Checks 2 to 4 of the controller: the first refusal, if any (R162). -/
def controllerRefusal (op : Op) (args : List Byte) (d : Desk) (s : State) : Option Result :=
  if argCountFits op args.length = false then some .badValue
  else if isRunning s.loader = false ∧ passesWhileLoading op = false then some .starting
  else if isConfiguration op = true ∧ (s.desk d).strap = false then some .notPermitted
  else none

/-- A checked command handed to its owner, with a place taken for its reply (R162, R163). -/
def handOn (op : Op) (d : Desk) (line : Byte) (args : List Byte) (s : State) : State :=
  let c := s.desk d
  setDesk d { c with
    replies := c.replies ++ [.waiting (ownerOf op)]
    handed := c.handed ++ [(ownerOf op, .command op line args)] } s

/-- A command the controller answers itself (R162). -/
def answerSelf (op : Op) (d : Desk) (line : Byte) (args : List Byte) (s : State) : State :=
  let r := decideOp op (.desk d) line args s
  addPlace d (.ready (replyOf op line r)) r.state

/-- A command of the catalogue past the place count: checked, then refused, answered or handed on (R162). -/
def checkCommand (op : Op) (d : Desk) (line : Byte) (args : List Byte) (s : State) : State :=
  match controllerRefusal op args d s with
  | some r => addPlace d (.ready (refusal (opCode op) line r)) s
  | none => if ownerOf op = .controller then answerSelf op d line args s else handOn op d line args s

/-- The assembler has judged its message and is back in HUNT (R159). -/
def backToHunt (d : Desk) (s : State) : State := setDesk d { s.desk d with assembler := .hunt, gap := 0 } s

/-- A good message completes at desk d's controller: liveness, then a reply place or the discarding, then
the checks (R159, R162, R163, R166). -/
def messageArrives (d : Desk) (code line : Byte) (args : List Byte) (s : State) : State :=
  let t := markAlive d (backToHunt d s)
  if repliesFull (t.desk d) then discardCommand d t
  else
    match opOfCode code with
    | none => addPlace d (.ready (refusal code line .unknown)) t
    | some op => checkCommand op d line args t

/-! ### The owner takes what it was handed (R122, R163) -/

/-- The owner's result put into the place that waits for it (R163). -/
def fillReply (o : Owner) (d : Desk) (r : Reply) (s : State) : State :=
  setDesk d { s.desk d with replies := fillPlace o r (s.desk d).replies } s

/-- The first thing handed to the owner by desk d's controller is taken off (R122). -/
def takeHanded (o : Owner) (d : Desk) (s : State) : State :=
  setDesk d { s.desk d with handed := dropFirstFor o (s.desk d).handed } s

/-- The owner takes a command: it decides it whole and hands its result back (R162, R163). -/
def ownerDecides (op : Op) (d : Desk) (line : Byte) (args : List Byte) (s : State) : State :=
  let r := decideOp op (.desk d) line args (takeHanded (ownerOf op) d s)
  fillReply (ownerOf op) d (replyOf op line r) r.state

/-- The Line Table takes a link event: desk 2's moves the fallback flag (R10). -/
def lineTableLink (d : Desk) (v : LinkState) (s : State) : State :=
  if d = 2 then s.withLines { s.lines with fallback := v == .lost } else s

/-- The first link event of the given kind handed to an owner is taken off the controller's list. -/
def takeLinkEvent (o : Owner) (h : Handed) (d : Desk) (s : State) : State :=
  setDesk d { s.desk d with handed := (s.desk d).handed.erase (o, h) } s

/-- The owner takes the first thing desk d's controller handed it (R122). -/
def ownerTakes (o : Owner) (d : Desk) (s : State) : State :=
  match firstFor o (s.desk d).handed with
  | none => s
  | some (.command op line args) => ownerDecides op d line args s
  | some .live =>
    let t := takeHanded o d s
    if o = .talkArbiter then talkLinkLive d t else lineTableLink d .live t
  | some .lost =>
    let t := takeHanded o d s
    if o = .talkArbiter then talkLinkLost d t else lineTableLink d .lost t

/-- The owner takes, one after another, what desk d's controller handed it. -/
def ownerTakesMany (o : Owner) (d : Desk) : Nat → State → State
  | 0, s => s
  | k + 1, s => ownerTakesMany o d k (ownerTakes o d s)

/-- How many things desk d's controller has handed to the owner that it has not taken. -/
def handedTo (o : Owner) (d : Desk) (s : State) : Nat :=
  ((s.desk d).handed.filter (fun p => p.1 == o)).length

/-- The message just completed is not discarded and passes the controller's checks (R162, R163). -/
def acceptedAt (op : Op) (d : Desk) (args : List Byte) (s : State) : Bool :=
  let t := markAlive d (backToHunt d s)
  !repliesFull (t.desk d) && (controllerRefusal op args d t).isNone

/-- A desk command at one of its moments (R162, R163). It is decided only as the first thing its owner has
been handed by that controller; handed nothing of the kind, the owner does nothing. -/
def deskCommand (op : Op) (m : Moment) (d : Desk) (line : Byte) (args : List Byte) (s : State) : State :=
  match m with
  | .arrives => messageArrives d (opCode op) line args s
  | .decided =>
    if firstFor (ownerOf op) (s.desk d).handed = some (.command op line args) then ownerDecides op d line args s
    else s
  | .whole =>
    let t := messageArrives d (opCode op) line args s
    if acceptedAt op d args s then ownerTakesMany (ownerOf op) d (handedTo (ownerOf op) d t) t else t

/-! ### The Start-up Loader (chapter 11) -/

/-- A notice of the kind would enter the desk's queue if it were taken now: the link is LIVE and the kind's mask bit
is on (R172, R180). -/
def wouldEnter (n : Notice) (c : Controller) : Bool := c.link == .live && maskBit c.mask n

/-- A load ends: the result is stored, the Loader is RUNNING, and a LOAD notice is raised (R180). It reaches the desks
whose link is LIVE and whose LOAD mask bit is on at this moment. Each of their controllers takes it as any other notice
(R172): DESIGN CHOICE, log entry 26. -/
def endLoad (r : LoadResult) (s : State) : State :=
  offerWhere (fun _ c => wouldEnter (.load r) c) (.load r) (s.withLoader ⟨.running, some r⟩)

/-- The blocks that have passed since the read in hand started, by the block counter (R178). -/
def readWait (r : Reading) (s : State) : Nat := (s.lanes.block - r.since).toNat

/-- The serial memory has not answered the read in hand: the load ends with ABSENT at the header and with STOPPED and
bad check at a message (R178). -/
def memorySilent (s : State) : State :=
  match s.loader.stage with
  | .running => s
  | .header _ => endLoad .absent s
  | .message k _ _ => endLoad (.stopped k 255) s

/-- The wait of the read in hand has reached 20 blocks, and the load ends (R178). In the twentieth block after the
read's start the data may still come first. DESIGN CHOICE, log entry 11: one row carries the data of one read, and the
next read starts in the block in which they arrive. -/
def memoryFails (s : State) : State :=
  match s.loader.stage with
  | .running => s
  | .header r | .message _ _ r => if Config.readBlocks ≤ readWait r s then memorySilent s else s

/-- The data of a read of the marker and the count arrive. Data that come after the wait do not count. With bytes
missing the next read starts; with all four the header is judged (R178). So a wrong marker whose count goes unanswered
ends the load with ABSENT: DESIGN CHOICE, log entry 28. -/
def readHeader (bytes : List Byte) (s : State) : State :=
  match s.loader.stage with
  | .header r =>
    let all := r.got ++ bytes
    if Config.readBlocks < readWait r s then memorySilent s
    else if all.length < 4 then s.withLoader { s.loader with stage := .header ⟨all, s.lanes.block⟩ }
    else
      match judgeHeader all with
      | none => endLoad .badHeader s
      | some 0 => endLoad .ok s
      | some (count + 1) => s.withLoader { s.loader with stage := .message 1 (count + 1) ⟨[], s.lanes.block⟩ }
  | _ => s

/-- An image message of the catalogue decided with the Loader as sender: its result, and the state after it
(R179). -/
def loaderDecides (op : Op) (line : Byte) (args : List Byte) (s : State) : Decision :=
  if argCountFits op args.length = false then refuse .badValue s
  else
    match op with
    | .nop | .linkStatus => taken [] s
    | .setMask => refuse .notYours s
    | .loadConfig => refuse .starting s
    | _ => decideOp op .loader line args s

/-- The result of an image message's code, line and arguments (R179). -/
def imageDecision (code line : Byte) (args : List Byte) (s : State) : Decision :=
  match opOfCode code with
  | none => refuse .unknown s
  | some op => loaderDecides op line args s

/-- Message k of the image is read whole: the Loader judges it and has it decided by its owner; DONE starts the reading
of the next message, or ends the load after the last (R178, R179). -/
def decideImage (bytes : List Byte) (k count : Nat) (s : State) : State :=
  match judgeImageMessage bytes with
  | none => endLoad (.stopped k 255) s
  | some (code, line, args) =>
    let r := imageDecision code line args s
    if r.result = .done then
      if k < count then
        r.state.withLoader { r.state.loader with stage := .message (k + 1) count ⟨[], r.state.lanes.block⟩ }
      else endLoad .ok r.state
    else endLoad (.stopped k (byteOf (resultCode r.result))) r.state

/-- The data of a read of a message arrive. Data that come after the wait do not count. While the message can still keep
its form and is not whole the next read starts; otherwise it is judged (R178). -/
def readMessage (bytes : List Byte) (s : State) : State :=
  match s.loader.stage with
  | .message k count r =>
    let all := r.got ++ bytes
    if Config.readBlocks < readWait r s then memorySilent s
    else if imageUnfinished all then s.withLoader { s.loader with stage := .message k count ⟨all, s.lanes.block⟩ }
    else decideImage all k count s
  | _ => s

end Sys2Proof.Machine
end

