-- ==== Sys2Proof/Machine/Commands.lean ====
section
/-! DEFINITION. The meanings of the rows that are desk commands and message events: one definition per row,
over the shared operations of Owners, Links and Reads. -/

namespace Sys2Proof.Machine

/-- NOP (R168): the controller answers it itself. -/
def execNop (d : Desk) (line : Byte) (args : List Byte) (s : State) : Host.Outcome State Fault Refusal :=
  goesTo (messageArrives d (opCode .nop) line args s)

/-- LINK-STATUS (R176): the controller answers it itself. -/
def execLinkStatus (d : Desk) (line : Byte) (args : List Byte) (s : State) : Host.Outcome State Fault Refusal :=
  goesTo (messageArrives d (opCode .linkStatus) line args s)

/-- SET-MASK (R171): the controller answers it itself. -/
def execSetMask (d : Desk) (line : Byte) (args : List Byte) (s : State) : Host.Outcome State Fault Refusal :=
  goesTo (messageArrives d (opCode .setMask) line args s)

/-- ANSWER (R33). -/
def execAnswer (m : Moment) (d : Desk) (line : Byte) (args : List Byte) (s : State) :
    Host.Outcome State Fault Refusal := goesTo (deskCommand .answer m d line args s)

/-- HOLD (R34, R35). -/
def execHold (m : Moment) (d : Desk) (line : Byte) (args : List Byte) (s : State) :
    Host.Outcome State Fault Refusal := goesTo (deskCommand .hold m d line args s)

/-- QUEUE (R36 to R38). -/
def execQueue (m : Moment) (d : Desk) (line : Byte) (args : List Byte) (s : State) :
    Host.Outcome State Fault Refusal := goesTo (deskCommand .queue m d line args s)

/-- RECALL (R39). -/
def execRecall (m : Moment) (d : Desk) (line : Byte) (args : List Byte) (s : State) :
    Host.Outcome State Fault Refusal := goesTo (deskCommand .recall m d line args s)

/-- PROMOTE (R40). -/
def execPromote (m : Moment) (d : Desk) (line : Byte) (args : List Byte) (s : State) :
    Host.Outcome State Fault Refusal := goesTo (deskCommand .promote m d line args s)

/-- GIVE (R41). -/
def execGive (m : Moment) (d : Desk) (line : Byte) (args : List Byte) (s : State) :
    Host.Outcome State Fault Refusal := goesTo (deskCommand .give m d line args s)

/-- TAKE (R55 to R57, R66). -/
def execTake (m : Moment) (d : Desk) (line : Byte) (args : List Byte) (s : State) :
    Host.Outcome State Fault Refusal := goesTo (deskCommand .take m d line args s)

/-- TAKE-NEXT (R58). -/
def execTakeNext (m : Moment) (d : Desk) (line : Byte) (args : List Byte) (s : State) :
    Host.Outcome State Fault Refusal := goesTo (deskCommand .takeNext m d line args s)

/-- PRIVATE (R59, R60). -/
def execPrivateTalk (m : Moment) (d : Desk) (line : Byte) (args : List Byte) (s : State) :
    Host.Outcome State Fault Refusal := goesTo (deskCommand .privateTalk m d line args s)

/-- PARK (R61). -/
def execPark (m : Moment) (d : Desk) (line : Byte) (args : List Byte) (s : State) :
    Host.Outcome State Fault Refusal := goesTo (deskCommand .park m d line args s)

/-- DROP (R42, R43, R62, R67). -/
def execDrop (m : Moment) (d : Desk) (line : Byte) (args : List Byte) (s : State) :
    Host.Outcome State Fault Refusal := goesTo (deskCommand .drop m d line args s)

/-- TALK-ON (R117, R118). -/
def execTalkOn (m : Moment) (d : Desk) (line : Byte) (args : List Byte) (s : State) :
    Host.Outcome State Fault Refusal := goesTo (deskCommand .talkOn m d line args s)

/-- TALK-OFF (R119). -/
def execTalkOff (m : Moment) (d : Desk) (line : Byte) (args : List Byte) (s : State) :
    Host.Outcome State Fault Refusal := goesTo (deskCommand .talkOff m d line args s)

/-- SET-LEVEL (R22). -/
def execSetLevel (m : Moment) (d : Desk) (line : Byte) (args : List Byte) (s : State) :
    Host.Outcome State Fault Refusal := goesTo (deskCommand .setLevel m d line args s)

/-- SET-RETURN (R23). -/
def execSetReturn (m : Moment) (d : Desk) (line : Byte) (args : List Byte) (s : State) :
    Host.Outcome State Fault Refusal := goesTo (deskCommand .setReturn m d line args s)

/-- SET-LABEL (R24). -/
def execSetLabel (m : Moment) (d : Desk) (line : Byte) (args : List Byte) (s : State) :
    Host.Outcome State Fault Refusal := goesTo (deskCommand .setLabel m d line args s)

/-- SET-HOME (R25). -/
def execSetHome (m : Moment) (d : Desk) (line : Byte) (args : List Byte) (s : State) :
    Host.Outcome State Fault Refusal := goesTo (deskCommand .setHome m d line args s)

/-- FORCE-PATH (R144). -/
def execForcePath (m : Moment) (d : Desk) (line : Byte) (args : List Byte) (s : State) :
    Host.Outcome State Fault Refusal := goesTo (deskCommand .forcePath m d line args s)

/-- SET-CONF (R110). -/
def execSetConf (m : Moment) (d : Desk) (line : Byte) (args : List Byte) (s : State) :
    Host.Outcome State Fault Refusal := goesTo (deskCommand .setConf m d line args s)

/-- SET-CTX-GAIN (R112). -/
def execSetCtxGain (m : Moment) (d : Desk) (line : Byte) (args : List Byte) (s : State) :
    Host.Outcome State Fault Refusal := goesTo (deskCommand .setCtxGain m d line args s)

/-- SET-DUCK (R128). -/
def execSetDuck (m : Moment) (d : Desk) (line : Byte) (args : List Byte) (s : State) :
    Host.Outcome State Fault Refusal := goesTo (deskCommand .setDuck m d line args s)

/-- SET-TALK-GAIN (R126). -/
def execSetTalkGain (m : Moment) (d : Desk) (line : Byte) (args : List Byte) (s : State) :
    Host.Outcome State Fault Refusal := goesTo (deskCommand .setTalkGain m d line args s)

/-- READ-LINE (R26). -/
def execReadLine (m : Moment) (d : Desk) (line : Byte) (args : List Byte) (s : State) :
    Host.Outcome State Fault Refusal := goesTo (deskCommand .readLine m d line args s)

/-- READ-STUDIO (R50, R53, R113). -/
def execReadStudio (m : Moment) (d : Desk) (line : Byte) (args : List Byte) (s : State) :
    Host.Outcome State Fault Refusal := goesTo (deskCommand .readStudio m d line args s)

/-- READ-METERS (R175). -/
def execReadMeters (m : Moment) (d : Desk) (line : Byte) (args : List Byte) (s : State) :
    Host.Outcome State Fault Refusal := goesTo (deskCommand .readMeters m d line args s)

/-- MAP-INPUT (R152). -/
def execMapInput (m : Moment) (d : Desk) (line : Byte) (args : List Byte) (s : State) :
    Host.Outcome State Fault Refusal := goesTo (deskCommand .mapInput m d line args s)

/-- MAP-OUTPUT (R155). -/
def execMapOutput (m : Moment) (d : Desk) (line : Byte) (args : List Byte) (s : State) :
    Host.Outcome State Fault Refusal := goesTo (deskCommand .mapOutput m d line args s)

/-- SET-PATH-TIMING (R145). -/
def execSetPathTiming (m : Moment) (d : Desk) (line : Byte) (args : List Byte) (s : State) :
    Host.Outcome State Fault Refusal := goesTo (deskCommand .setPathTiming m d line args s)

/-- SET-STEM-TIMING (R111). -/
def execSetStemTiming (m : Moment) (d : Desk) (line : Byte) (args : List Byte) (s : State) :
    Host.Outcome State Fault Refusal := goesTo (deskCommand .setStemTiming m d line args s)

/-- SET-CLOCK (R150). -/
def execSetClock (m : Moment) (d : Desk) (line : Byte) (args : List Byte) (s : State) :
    Host.Outcome State Fault Refusal := goesTo (deskCommand .setClock m d line args s)

/-- SET-TALK-TIMEOUT (R127). -/
def execSetTalkTimeout (m : Moment) (d : Desk) (line : Byte) (args : List Byte) (s : State) :
    Host.Outcome State Fault Refusal := goesTo (deskCommand .setTalkTimeout m d line args s)

/-- LOAD-CONFIG (R181). -/
def execLoadConfig (m : Moment) (d : Desk) (line : Byte) (args : List Byte) (s : State) :
    Host.Outcome State Fault Refusal := goesTo (deskCommand .loadConfig m d line args s)

/-- A good message by its code: UNKNOWN when the code is not in the catalogue (R162). -/
def execUnknownCommand (d : Desk) (code line : Byte) (args : List Byte) (s : State) :
    Host.Outcome State Fault Refusal := goesTo (messageArrives d code line args s)

/-- A message that fails its form or check is discarded whole and counted (R159, R161). -/
def execBadMessage (d : Desk) (s : State) : Host.Outcome State Fault Refusal := goesTo (discardBad d s)

/-- The gap count has reached 21 during assembly (R160). -/
def execMessageGapTimeout (d : Desk) (s : State) : Host.Outcome State Fault Refusal := goesTo (loseMessage d s)

/-- A good command finds all 16 reply places taken; its message still counts for liveness (R163, R166). With
a place free no command is discarded, and nothing changes. -/
def execCommandDiscarded (d : Desk) (s : State) : Host.Outcome State Fault Refusal :=
  goesTo (if repliesFull (s.desk d) then discardCommand d (markAlive d (backToHunt d s)) else s)

/-- One received byte taken by the assembler; a byte that completes a message has that message judged and
acted on (R159, R160). -/
def execByteReceived (d : Desk) (b : Byte) (s : State) : Host.Outcome State Fault Refusal :=
  let s := loseMessage d s
  match feedByte (s.desk d).assembler b with
  | (a, .collecting) => goesTo (setDesk d { s.desk d with assembler := a, gap := 0 } s)
  | (_, .bad) => goesTo (discardBad d s)
  | (_, .good code line args) => goesTo (messageArrives d code line args s)

end Sys2Proof.Machine
end

