-- ==== Sys2Proof/Machine/Feeds.lean ====
section
/-! DEFINITION. The Context Store's own work: judging the stem and the safe feed of each studio, moving
their runs, the base level, and the changes of a feed's role (chapter 5). -/

namespace Sys2Proof.Machine

/-- A feed is judged GOOD when its role is assigned, its lane was LOCKED and its slot carried VALID 1 in all
48 frames of the block (R102). -/
def judgeFeed (s : State) (role : Fin 44) : Bool :=
  match s.maps.input[role] with
  | some a => slotGood s a
  | none => false

/-- The judgement kept and the feed's runs moved (R102, R103). -/
def moveFeed (good : Bool) (f : FeedRec) : FeedRec :=
  if good then { good := true, goodRun := riseTo Config.maxCount f.goodRun, badRun := 0 }
  else { good := false, goodRun := 0, badRun := riseTo Config.maxCount f.badRun }

/-- The base level after the tests of a block end, in the order R104 lists them. -/
def nextBase (c : StudioCtx) : BaseLevel :=
  match c.base with
  | .normal => if c.failThr ≤ c.stem.badRun then (if c.safe.good then .safe else .bare) else .normal
  | .safe =>
    if c.revertThr ≤ c.stem.goodRun then .normal
    else if c.failThr ≤ c.safe.badRun then .bare
    else .safe
  | .bare =>
    if c.revertThr ≤ c.stem.goodRun then .normal
    else if c.revertThr ≤ c.safe.goodRun then .safe
    else .bare

/-- A studio's base level moved to the given one with its BASE notice; no change and no notice at that level already
(R104, R107). -/
def moveBase (x : Studio) (level : BaseLevel) (s : State) : State :=
  let c := s.ctx.studios.get x
  if level = c.base then s else offerAll (.base x level) (setStudio x { c with base := level } s)

/-- The transition of a studio's base level, when one is due (R104). -/
def transitBase (x : Studio) (s : State) : State := moveBase x (nextBase (s.ctx.studios.get x)) s

/-- Both feeds of a studio judged and their runs moved (R102, R103). -/
def judgeStudio (s : State) (x : Studio) (c : StudioCtx) : StudioCtx :=
  { c with
    stem := moveFeed (judgeFeed s (stemRole x)) c.stem
    safe := moveFeed (judgeFeed s (safeRole x)) c.safe }

/-- The Context Store's block-end step: both studios judged, then Studio A's transition before Studio B's
(R102 to R104, R107). -/
def feedsBlockEnd (s : State) : State :=
  let t := s.withCtx { s.ctx with
    studios := ⟨judgeStudio s .a s.ctx.studios.a, judgeStudio s .b s.ctx.studios.b⟩
    tested := some s.lanes.block }
  transitBase .b (transitBase .a t)

/-- The block has ended and the Context Store has not yet made its block-end step (R104, R147). -/
def feedsEndDue (s : State) : Bool :=
  s.lanes.frames == Config.framesPerBlock && s.ctx.tested != some s.lanes.block

/-- The base level the studio's block-end step comes to: the tests, with the thresholds as they stand, on the runs as
this block's judgement moves them (R104, R106). -/
def levelAtEnd (x : Studio) (s : State) : BaseLevel := nextBase (judgeStudio s x (s.ctx.studios.get x))

/-- The row of a studio's transition: at a block end whose step is not yet made and comes to a transition of that studio,
the Context Store makes that step, whole and once (R104, R106, R107, R114); at any other time nothing is due. Log entry
5. -/
def baseLevelStep (x : Studio) (s : State) : State :=
  if feedsEndDue s && levelAtEnd x s != (s.ctx.studios.get x).base then feedsBlockEnd s else s

/-- A studio's runs when the new map takes effect: both runs of a feed whose slot changed become 0
(R105). -/
def remapStudio (old new : SlotMap) (x : Studio) (c : StudioCtx) : StudioCtx :=
  let zero (f : FeedRec) : FeedRec := { f with goodRun := 0, badRun := 0 }
  { c with
    stem := if roleChanges old new (stemRole x) then zero c.stem else c.stem
    safe := if roleChanges old new (safeRole x) then zero c.safe else c.safe }

end Sys2Proof.Machine
end

