-- ==== Sys2Proof/Machine/Mix.lean ====
section
/-! DEFINITION. The Mix Engine: ramps, contributions, group outputs, returns, clips, peaks and fade
judgements of one computation, and the block-end fall of the quiet counts (chapter 4, R174). -/

namespace Sys2Proof.Machine

/-! ### Numbers (R74 to R77, R82) -/

/-- The round-shift by n places: add 2^(n-1), divide by 2^n, take the floor (R76). -/
def roundShift (n : Nat) (v : Int) : Int := (v + ((2 ^ (n - 1) : Nat) : Int)) / ((2 ^ n : Nat) : Int)

/-- A value brought into the range of a sample (R77). -/
def saturate (v : Int) : Int := if v < -8388608 then -8388608 else if 8388607 < v then 8388607 else v

/-- One ramp step of a current value toward its target (R82). -/
def rampStep (target current : Nat) : Nat :=
  if current ≤ target then min target (current + Config.rampStep) else max target (current - Config.rampStep)

/-! ### Targets and ramps (R82 to R85) -/

/-- The send-gain target of a line: its line level as a steady member, 0 otherwise (R6, R83). -/
def sendTarget (r : LineRec) : Nat :=
  match r.state with
  | .screen .steady | .air _ .steady | .priv _ .steady => r.level
  | _ => 0

/-- A studio's base gains after the frame's ramp step (R82, R85). -/
def rampBase (c : StudioCtx) (g : BaseGains) : BaseGains :=
  ⟨rampStep c.stemGain g.stem, rampStep c.holdGain g.hold, rampStep c.privGain g.priv⟩

/-- Every ramped quantity after the frame's ramp step (R78, R82). -/
def rampAll (s : State) : MixEngine :=
  { s.mix with
    send := Vector.ofFn fun n => rampStep (sendTarget (s.line n)) s.mix.send[n]
    ret := Vector.ofFn fun n => rampStep (s.line n).ret s.mix.ret[n]
    gains := ⟨rampBase s.ctx.studios.a s.mix.gains.a, rampBase s.ctx.studios.b s.mix.gains.b⟩
    screenTalk := rampStep s.ctx.screen.gain s.mix.screenTalk }

/-! ### Contributions, sums and group outputs (R87 to R89)

In the definitions from here to the returns, m holds the gains after the frame's ramp step. -/

/-- The contribution of line n (R87). -/
def contribution (s : State) (m : MixEngine) (n : Line) : Int := lineSample s n * m.send[n]

/-- The exact sum of the contributions of a list of lines (R88). -/
def sumOver (s : State) (m : MixEngine) (lines : List Line) : Int :=
  (lines.map (contribution s m)).sum

/-- The group sum (R88). -/
def groupSum (s : State) (m : MixEngine) (g : Group) : Int := sumOver s m (members s.lines g)

/-- The group sum after the round-shift, before saturation (R89). -/
def groupRaw (s : State) (m : MixEngine) (g : Group) : Int := roundShift 14 (groupSum s m g)

/-! ### The return of each line (R81, R90 to R95) -/

/-- The context of a line in a state that is neither FREE nor CLEARING (R81). -/
def contextOf (r : LineRec) : Context :=
  match r.state with
  | .screen _ => .screen
  | .air x _ | .priv x _ | .queued x => .studio x
  | _ => .studio r.home

/-- The duck depth of a context. -/
def duckOf (s : State) : Context → Nat
  | .studio x => (s.ctx.studios.get x).duck
  | .screen => s.ctx.screen.duck

/-- The base sample of a studio's AIR group, by its base level (R90, R101). -/
def stemSample (s : State) (x : Studio) : Int :=
  match (s.ctx.studios.get x).base with
  | .normal => roleSample s (stemRole x)
  | .safe => roleSample s (safeRole x)
  | .bare => 0

/-- The base term: the base sample times the current gain that goes with it (R90). -/
def baseTerm (s : State) (m : MixEngine) (n : Line) : Int :=
  match (s.line n).state with
  | .air x _ => stemSample s x * (m.gains.get x).stem
  | .priv x _ => roleSample s (privTalkRole x) * (m.gains.get x).priv
  | .screen _ => roleSample s screenTalkRole * m.screenTalk
  | .queued x => roleSample s (holdRole x) * (m.gains.get x).hold
  | .waiting | .hold => roleSample s (holdRole (s.line n).home) * (m.gains.get (s.line n).home).hold
  | .free | .clearing _ => 0

/-- The conference setting that applies to a group (R91). -/
def conferenceOn (s : State) : Group → Bool
  | .air x => (s.ctx.studios.get x).airConf
  | .priv x => (s.ctx.studios.get x).privConf
  | .screen => s.ctx.screen.conf

/-- The others term: the contributions of the other members of the line's group while its conference is on;
the line's own input sample is no operand of it (R91). -/
def othersTerm (s : State) (m : MixEngine) (n : Line) : Int :=
  match memberGroup (s.line n).state with
  | some g => if conferenceOn s g then sumOver s m ((members s.lines g).filter (fun k => k != n)) else 0
  | none => 0

/-- The pre-return (R92). -/
def preReturn (s : State) (m : MixEngine) (n : Line) : Int :=
  roundShift 14 (baseTerm s m n + othersTerm s m n)

/-- The ducked pre-return (R93). -/
def duckedReturn (s : State) (m : MixEngine) (n : Line) : Int :=
  let depth := duckOf s (contextOf (s.line n))
  if (s.talk.holds[n]).isSome ∧ 1 ≤ depth then roundShift depth (preReturn s m n) else preReturn s m n

/-- The talk term (R94). -/
def talkTerm (s : State) (n : Line) : Int :=
  match s.talk.holds[n] with
  | some h => roleSample s (talkRole h.holder) * s.talk.gain[h.holder]
  | none => 0

/-- The return after its last round-shift, before saturation; 0 for a FREE or CLEARING line (R95). -/
def returnRaw (s : State) (m : MixEngine) (n : Line) : Int :=
  if isFree (s.line n).state || isClearing (s.line n).state then 0
  else roundShift 14 (duckedReturn s m n * m.ret[n] + talkTerm s n)

/-- A line's return with the VALID and RELEASE of its slots (R4, R95). -/
def returnOut (s : State) (m : MixEngine) (n : Line) : ReturnOut :=
  ⟨saturate (returnRaw s m n), !(isFree (s.line n).state || isClearing (s.line n).state),
    isClearing (s.line n).state⟩

/-- The groups in group order (R170). -/
def groupAt (i : Fin 5) : Group :=
  match i with
  | 0 => .air .a
  | 1 => .air .b
  | 2 => .priv .a
  | 3 => .priv .b
  | 4 => .screen

/-- The results of the computation (R78). -/
def resultsOf (s : State) (m : MixEngine) : Results :=
  { returns := Vector.ofFn fun n => returnOut s m n
    groups := Vector.ofFn fun i => saturate (groupRaw s m (groupAt i))
    copies := s.lanes.input }

/-! ### Clips, peaks and fade completions (R96 to R98) -/

/-- A saturation changed the value of an output (R96). -/
def clipped (v : Int) : Bool := saturate v != v

/-- The outputs that clip in the computation, in output order. -/
def clippedOutputs (s : State) (m : MixEngine) : List Output :=
  (allLines.filter (fun n => clipped (returnRaw s m n))).map returnOutput ++
  ([Group.air .a, .air .b, .priv .a, .priv .b, .screen].filter (fun g => clipped (groupRaw s m g))).map groupOutput

/-- One clip counted on an output: the count rises, and a CLIP notice is raised or left pending by the quiet
count (R96, R174). -/
def countClip (s : State) (o : Output) : State :=
  let c := s.mix.clips[o]
  let count := riseTo Config.maxCount c.count
  let put (v : ClipRec) : State := s.withMix { s.mix with clips := s.mix.clips.set o v }
  if c.quiet = 0 then offerAll (.clip o count) (put ⟨count, Config.quietAtClip, c.pending⟩)
  else put ⟨count, c.quiet, true⟩

/-- The peak sets raised by the magnitudes of a computation (R97). -/
def raisePeaks (s : State) (r : Results) (p : PeakSet) : PeakSet :=
  { input := Vector.ofFn fun n => max p.input[n] (lineSample s n).natAbs
    ret := Vector.ofFn fun n => max p.ret[n] (r.returns[n]).audio.natAbs
    group := Vector.ofFn fun i => max p.group[i] (r.groups[i]).natAbs }

/-- The leaving members whose send gain was 0 after the ramp step, with the tag read, in ascending line
order (R64, R98). -/
def fadesComplete (s : State) (m : MixEngine) : List (Line × LeaveTag) :=
  (allLines.filter (fun n => (destOf (s.line n).state).isSome && m.send[n] == 0)).map
    (fun n => (n, (s.line n).tag))

/-- One frame: the output slots send the previous computation's results (R156), and the Mix Engine computes
the frame from what it reads now (R78). -/
def computeFrame (s : State) : State :=
  let m := rampAll s
  let r := resultsOf s m
  let sent := s.withLanes { s.lanes with sent := outputFrame s }
  let mixed := sent.withMix { m with
    peaks := Vector.ofFn fun d => raisePeaks s r s.mix.peaks[d]
    results := r }
  let counted := (clippedOutputs s m).foldl countClip mixed
  counted.withWires { counted.wires with fades := counted.wires.fades ++ fadesComplete s m }

/-! ### The block-end fall of the quiet counts (R174) -/

/-- A quiet count above 0 falls by 1. -/
def fallQuiet (c : ClipRec) : ClipRec := { c with quiet := c.quiet - 1 }

/-- A quiet count that stands at 0 with its pending mark on raises a CLIP notice with the count as it stands,
sets the mark off and the quiet count to 1000 (R174). -/
def raisePending (s : State) (o : Output) : State :=
  let c := s.mix.clips[o]
  if c.quiet = 0 ∧ c.pending = true then
    offerAll (.clip o c.count)
      (s.withMix { s.mix with clips := s.mix.clips.set o ⟨c.count, Config.quietAtBlockEnd, false⟩ })
  else s

/-- The 21 outputs in output order (R170). -/
def allOutputs : List Output :=
  [0, 1, 2, 3, 4, 5, 6, 7, 8, 9, 10, 11, 12, 13, 14, 15, 16, 17, 18, 19, 20]

/-- The Mix Engine's block-end step: every quiet count falls, then the pending notices go out in output order
(R174). -/
def quietBlockEnd (s : State) : State :=
  allOutputs.foldl raisePending
    (s.withMix { s.mix with clips := Vector.ofFn fun o => fallQuiet s.mix.clips[o] })

end Sys2Proof.Machine
end

