-- ==== Sys2Proof/Machine/Events.lean ====
section
/-! DEFINITION. The meanings of the rows that are events, block starts, block ends and audio frames: one
definition per row over the shared operations. -/

namespace Sys2Proof.Machine

/-- RESET: every block takes its reset values, each controller samples its strap, and the Loader starts a
load (R177). The commands that wait outside the part stand. -/
def execReset (eng0 eng1 eng2 : Bool) (s : State) : Host.Outcome State Fault Refusal :=
  goesTo ((State.reset.withDesks (Vector.ofFn fun d =>
    Controller.reset (if d = 0 then eng0 else if d = 1 then eng1 else eng2))).withPending s.pending)

/-! ### Link events and the transmitter -/

/-- The liveness count has reached 2000 on a LIVE link (R166, R167). -/
def execLinkLost (d : Desk) (s : State) : Host.Outcome State Fault Refusal := goesTo (loseLink d s)

/-- A controller's block end (R160, R166). -/
def execLivenessBlockEnd (d : Desk) (s : State) : Host.Outcome State Fault Refusal := goesTo (linkBlockEnd d s)

/-- The Line Table takes a link-LIVE event (R10). -/
def execLinkLiveAtLineTable (d : Desk) (s : State) : Host.Outcome State Fault Refusal :=
  goesTo (lineTableLink d .live (takeLinkEvent .lineTable .live d s))

/-- The Line Table takes a link-LOST event (R10). -/
def execLinkLostAtLineTable (d : Desk) (s : State) : Host.Outcome State Fault Refusal :=
  goesTo (lineTableLink d .lost (takeLinkEvent .lineTable .lost d s))

/-- The Talk Arbiter takes a link-LIVE event (R122, R123). -/
def execLinkLiveAtTalkArbiter (d : Desk) (s : State) : Host.Outcome State Fault Refusal :=
  goesTo (talkLinkLive d (takeLinkEvent .talkArbiter .live d s))

/-- The Talk Arbiter takes a link-LOST event (R122). -/
def execLinkLostAtTalkArbiter (d : Desk) (s : State) : Host.Outcome State Fault Refusal :=
  goesTo (talkLinkLost d (takeLinkEvent .talkArbiter .lost d s))

/-- The idle transmitter starts the filled head reply (R163, R165). -/
def execSendReply (d : Desk) (s : State) : Host.Outcome State Fault Refusal := goesTo (startReply d s)

/-- The idle transmitter starts the oldest notice when no reply can go (R165). -/
def execSendNotice (d : Desk) (s : State) : Host.Outcome State Fault Refusal := goesTo (startNotice d s)

/-- The transmitter finishes its message (R165). -/
def execMessageSent (d : Desk) (s : State) : Host.Outcome State Fault Refusal := goesTo (finishSending d s)

/-- The controller takes the oldest notice offered to it (R172). -/
def execNoticeOffer (d : Desk) (s : State) : Host.Outcome State Fault Refusal := goesTo (takeOffer d s)

/-! ### Party events, fades and clearing at the Line Table -/

/-- A party event taken off the wire from the Path Monitor. -/
def takeParty (e : PartyEvent) (s : State) : State :=
  s.withWires { s.wires with parties := s.wires.parties.erase e }

/-- The Line Table takes party present: a FREE line becomes WAITING (R18). -/
def execPartyPresent (n : Line) (s : State) : Host.Outcome State Fault Refusal :=
  let t := takeParty (.present n) s
  goesTo (if isFree (t.line n).state then commit (setState n .waiting t.lines) t else t)

/-- The Line Table takes party gone: any line but a FREE one is freed at once (R19). -/
def execPartyGone (n : Line) (s : State) : Host.Outcome State Fault Refusal :=
  let t := takeParty (.gone n) s
  goesTo (if isFree (t.line n).state then t else commit (freeLine n t.lines) t)

/-- The Line Table takes a fade completion: a leaving line with the report's tag enters its destination
(R65). -/
def execFadeComplete (n : Line) (tag : LeaveTag) (s : State) : Host.Outcome State Fault Refusal :=
  let t := s.withWires { s.wires with fades := s.wires.fades.erase (n, tag) }
  match destOf (t.line n).state with
  | some dest => goesTo (if (t.line n).tag = tag then commit (enterDest n dest t.lines) t else t)
  | none => goesTo t

/-- A CLEARING line's count rises by 1, up to 2000 (R21). -/
def tickClearing (r : LineRec) : LineRec :=
  match r.state with
  | .clearing c => { r with state := .clearing (riseTo Config.clearingTimeout c) }
  | _ => r

/-- The Line Table's block end: every CLEARING line's count rises (R21). -/
def execClearingCountTick (s : State) : Host.Outcome State Fault Refusal :=
  goesTo (s.withLines { s.lines with recs := Vector.ofFn fun n => tickClearing s.lines.recs[n] })

/-- The clearing timeout: a line whose count stands at 2000 becomes FREE (R21). -/
def execClearingTimeout (n : Line) (s : State) : Host.Outcome State Fault Refusal :=
  match (s.line n).state with
  | .clearing c => goesTo (if Config.clearingTimeout ≤ c then commit (freeLine n s.lines) s else s)
  | _ => goesTo s

/-- A line that is not FREE has lost its primary role by a map change that names the given roles (R3, R153). -/
def losesPrimary (roles : List (Fin 44)) (s : State) (n : Line) : Bool :=
  roles.contains (primaryRole n) && !equipped s n && !isFree (s.line n).state

/-- The Line Table takes the map-changed event: every line that is not FREE and has lost its primary role by it is
freed, all in one step with one set of notices (R3, R17, R153). An event that is not the oldest handed to it changes
nothing. -/
def execPrimaryRoleLoss (roles : List (Fin 44)) (s : State) : Host.Outcome State Fault Refusal :=
  if s.wires.mapChanges.head? = some roles then
    goesTo (commit (freeLines (losesPrimary roles s) s.lines)
      (s.withWires { s.wires with mapChanges := s.wires.mapChanges.tail }))
  else goesTo s

/-! ### The Talk Arbiter and the Path Monitor take what they are handed -/

/-- The Talk Arbiter takes a state-changed report (R121). -/
def execStateChangedReport (n : Line) (s : State) : Host.Outcome State Fault Refusal :=
  goesTo (recheckLine n (s.withWires { s.wires with reports := s.wires.reports.erase n }))

/-- The Path Monitor takes a restart (R143). -/
def execPathRestart (n : Line) (toFree : Bool) (s : State) : Host.Outcome State Fault Refusal :=
  let t := s.withWires { s.wires with restarts := s.wires.restarts.erase (n, toFree) }
  goesTo (setPath n (restartLine toFree t.paths[n]) t)

/-- The Talk Arbiter's block-end test (R124). -/
def execTalkTimeout (s : State) : Host.Outcome State Fault Refusal := goesTo (talkBlockEnd s)

/-! ### Audio frames -/

/-- The Lane Interface takes one input frame (R146, R148). -/
def execLaneInputFrame (lanes : Vector LaneIn 4) (s : State) : Host.Outcome State Fault Refusal :=
  goesTo (s.withLanes (takeFrame lanes s.lanes))

/-- One frame's computation, with the sending of the previous one's results (R78, R156). -/
def execFrameComputation (s : State) : Host.Outcome State Fault Refusal := goesTo (computeFrame s)

/-- The quiet counts fall at a block end (R174). -/
def execClipQuietTick (s : State) : Host.Outcome State Fault Refusal := goesTo (quietBlockEnd s)

/-- The pending CLIP notice of one output, when its quiet count stands at 0 (R174). -/
def execPendingClipNotice (o : Output) (s : State) : Host.Outcome State Fault Refusal := goesTo (raisePending s o)

/-! ### Block starts -/

/-- The block counter rises by 1 (R147). -/
def execBlockStart (s : State) : Host.Outcome State Fault Refusal := goesTo (s.withLanes (startBlock s.lanes))

/-- The pending input changes enter the map in effect; the Path Monitor restarts the changed line paths and
the Context Store the runs of a changed feed in this step, and the Line Table is handed its map-changed event, which
PRIMARY-ROLE-LOSS takes (R105, R139, R153; DEDUCED, log entry 24). -/
def execInputMapApply (s : State) : Host.Outcome State Fault Refusal :=
  let new := applyInputMap s.maps
  let t := s.withMaps new
  let t := t.withPaths (Vector.ofFn fun n => remapLine s.maps new n s.paths[n])
  let t := t.withCtx { s.ctx with
    studios := ⟨remapStudio s.maps new .a s.ctx.studios.a, remapStudio s.maps new .b s.ctx.studios.b⟩ }
  goesTo (t.withWires { s.wires with mapChanges := s.wires.mapChanges ++ mapEvents s.maps new })

/-- The pending output functions enter the map in effect (R155). -/
def execOutputMapApply (s : State) : Host.Outcome State Fault Refusal := goesTo (s.withMaps (applyOutputMap s.maps))

/-- A pending reference lane takes effect (R150). -/
def execReferenceLaneChange (s : State) : Host.Outcome State Fault Refusal := goesTo (applyReference s)

/-! ### Block ends -/

/-- The Lane Interface's block-end step (R148, R149). -/
def execLaneBlockEnd (s : State) : Host.Outcome State Fault Refusal := goesTo (lanesBlockEnd s)

/-- The relock count stands at 250 in FREE-RUN (R149). -/
def execClockRelock (s : State) : Host.Outcome State Fault Refusal := goesTo (relockClock s)

/-- The Path Monitor's block-end step, taken whole (R133 to R142). -/
def execPathBlockEnd (s : State) : Host.Outcome State Fault Refusal := goesTo (pathsBlockEnd s)

/-- The block-end step of the Path Monitor in which a line's pending path mode takes effect (R137). -/
def execPendingModeApply (n : Line) (s : State) : Host.Outcome State Fault Refusal :=
  goesTo (pendingModeStep n s)

/-- The block-end step of the Path Monitor in which a line fails over to its other path (R136). -/
def execFailover (n : Line) (s : State) : Host.Outcome State Fault Refusal :=
  goesTo (failoverStep n s)

/-- The block-end step of the Path Monitor in which a line returns to its primary path (R136). -/
def execRevert (n : Line) (s : State) : Host.Outcome State Fault Refusal :=
  goesTo (revertStep n s)

/-- The Context Store's block-end step (R102 to R104). -/
def execFeedJudgement (s : State) : Host.Outcome State Fault Refusal := goesTo (feedsBlockEnd s)

/-- The block-end step of the Context Store in which a studio's base level moves, when one is due (R104, R106, R107). -/
def execBaseLevelTransition (x : Studio) (s : State) : Host.Outcome State Fault Refusal :=
  goesTo (baseLevelStep x s)

/-! ### The Start-up Loader -/

/-- The data of a read of the marker and the message count arrive (R178). -/
def execLoaderHeader (b0 b1 b2 b3 : Option Byte) (s : State) : Host.Outcome State Fault Refusal :=
  goesTo (readHeader ([b0, b1, b2, b3].filterMap id) s)

/-- The data of a read of a message of the image arrive (R178, R179). -/
def execLoaderMessage (bytes : List Byte) (s : State) : Host.Outcome State Fault Refusal :=
  goesTo (readMessage bytes s)

/-- The serial memory fails to answer a read within 20 blocks (R178). -/
def execMemoryTimeout (s : State) : Host.Outcome State Fault Refusal := goesTo (memoryFails s)

end Sys2Proof.Machine
end

