-- ==== Sys2Proof/Machine/Dispatch.lean ====
section
/-! DEFINITION. exec: one arm per row of the table of operations and events, each one call of the row's
meaning. -/

namespace Sys2Proof.Machine

def exec (i : Instr) (s : State) : Host.Outcome State Fault Refusal :=
  match i with
  | .reset eng0 eng1 eng2 => Sys2Proof.Machine.execReset eng0 eng1 eng2 s
  | .nop d line args => Sys2Proof.Machine.execNop d line args s
  | .answer m d line args => Sys2Proof.Machine.execAnswer m d line args s
  | .hold m d line args => Sys2Proof.Machine.execHold m d line args s
  | .queue m d line args => Sys2Proof.Machine.execQueue m d line args s
  | .recall m d line args => Sys2Proof.Machine.execRecall m d line args s
  | .promote m d line args => Sys2Proof.Machine.execPromote m d line args s
  | .give m d line args => Sys2Proof.Machine.execGive m d line args s
  | .take m d line args => Sys2Proof.Machine.execTake m d line args s
  | .takeNext m d line args => Sys2Proof.Machine.execTakeNext m d line args s
  | .privateTalk m d line args => Sys2Proof.Machine.execPrivateTalk m d line args s
  | .park m d line args => Sys2Proof.Machine.execPark m d line args s
  | .drop m d line args => Sys2Proof.Machine.execDrop m d line args s
  | .talkOn m d line args => Sys2Proof.Machine.execTalkOn m d line args s
  | .talkOff m d line args => Sys2Proof.Machine.execTalkOff m d line args s
  | .setLevel m d line args => Sys2Proof.Machine.execSetLevel m d line args s
  | .setReturn m d line args => Sys2Proof.Machine.execSetReturn m d line args s
  | .setLabel m d line args => Sys2Proof.Machine.execSetLabel m d line args s
  | .setHome m d line args => Sys2Proof.Machine.execSetHome m d line args s
  | .forcePath m d line args => Sys2Proof.Machine.execForcePath m d line args s
  | .setConf m d line args => Sys2Proof.Machine.execSetConf m d line args s
  | .setCtxGain m d line args => Sys2Proof.Machine.execSetCtxGain m d line args s
  | .setDuck m d line args => Sys2Proof.Machine.execSetDuck m d line args s
  | .setTalkGain m d line args => Sys2Proof.Machine.execSetTalkGain m d line args s
  | .readLine m d line args => Sys2Proof.Machine.execReadLine m d line args s
  | .readStudio m d line args => Sys2Proof.Machine.execReadStudio m d line args s
  | .readMeters m d line args => Sys2Proof.Machine.execReadMeters m d line args s
  | .linkStatus d line args => Sys2Proof.Machine.execLinkStatus d line args s
  | .setMask d line args => Sys2Proof.Machine.execSetMask d line args s
  | .mapInput m d line args => Sys2Proof.Machine.execMapInput m d line args s
  | .mapOutput m d line args => Sys2Proof.Machine.execMapOutput m d line args s
  | .setPathTiming m d line args => Sys2Proof.Machine.execSetPathTiming m d line args s
  | .setStemTiming m d line args => Sys2Proof.Machine.execSetStemTiming m d line args s
  | .setClock m d line args => Sys2Proof.Machine.execSetClock m d line args s
  | .setTalkTimeout m d line args => Sys2Proof.Machine.execSetTalkTimeout m d line args s
  | .loadConfig m d line args => Sys2Proof.Machine.execLoadConfig m d line args s
  | .unknownCommand d code line args => Sys2Proof.Machine.execUnknownCommand d code line args s
  | .badMessage d => Sys2Proof.Machine.execBadMessage d s
  | .messageGapTimeout d => Sys2Proof.Machine.execMessageGapTimeout d s
  | .commandDiscarded d => Sys2Proof.Machine.execCommandDiscarded d s
  | .linkLost d => Sys2Proof.Machine.execLinkLost d s
  | .livenessBlockEnd d => Sys2Proof.Machine.execLivenessBlockEnd d s
  | .linkLiveAtLineTable d => Sys2Proof.Machine.execLinkLiveAtLineTable d s
  | .linkLostAtLineTable d => Sys2Proof.Machine.execLinkLostAtLineTable d s
  | .linkLiveAtTalkArbiter d => Sys2Proof.Machine.execLinkLiveAtTalkArbiter d s
  | .linkLostAtTalkArbiter d => Sys2Proof.Machine.execLinkLostAtTalkArbiter d s
  | .sendReply d => Sys2Proof.Machine.execSendReply d s
  | .sendNotice d => Sys2Proof.Machine.execSendNotice d s
  | .noticeOffer d => Sys2Proof.Machine.execNoticeOffer d s
  | .partyPresent n => Sys2Proof.Machine.execPartyPresent n s
  | .partyGone n => Sys2Proof.Machine.execPartyGone n s
  | .fadeComplete n tag => Sys2Proof.Machine.execFadeComplete n tag s
  | .clearingCountTick => Sys2Proof.Machine.execClearingCountTick s
  | .clearingTimeout n => Sys2Proof.Machine.execClearingTimeout n s
  | .primaryRoleLoss roles => Sys2Proof.Machine.execPrimaryRoleLoss roles s
  | .stateChangedReport n => Sys2Proof.Machine.execStateChangedReport n s
  | .pathRestart n toFree => Sys2Proof.Machine.execPathRestart n toFree s
  | .talkTimeout => Sys2Proof.Machine.execTalkTimeout s
  | .laneInputFrame lanes => Sys2Proof.Machine.execLaneInputFrame lanes s
  | .frameComputation => Sys2Proof.Machine.execFrameComputation s
  | .clipQuietTick => Sys2Proof.Machine.execClipQuietTick s
  | .pendingClipNotice o => Sys2Proof.Machine.execPendingClipNotice o s
  | .blockStart => Sys2Proof.Machine.execBlockStart s
  | .inputMapApply => Sys2Proof.Machine.execInputMapApply s
  | .outputMapApply => Sys2Proof.Machine.execOutputMapApply s
  | .referenceLaneChange => Sys2Proof.Machine.execReferenceLaneChange s
  | .laneBlockEnd => Sys2Proof.Machine.execLaneBlockEnd s
  | .clockRelock => Sys2Proof.Machine.execClockRelock s
  | .pathBlockEnd => Sys2Proof.Machine.execPathBlockEnd s
  | .pendingModeApply n => Sys2Proof.Machine.execPendingModeApply n s
  | .failover n => Sys2Proof.Machine.execFailover n s
  | .revert n => Sys2Proof.Machine.execRevert n s
  | .feedJudgement => Sys2Proof.Machine.execFeedJudgement s
  | .baseLevelTransition x => Sys2Proof.Machine.execBaseLevelTransition x s
  | .loaderHeader b0 b1 b2 b3 => Sys2Proof.Machine.execLoaderHeader b0 b1 b2 b3 s
  | .loaderMessage bytes => Sys2Proof.Machine.execLoaderMessage bytes s
  | .memoryTimeout => Sys2Proof.Machine.execMemoryTimeout s
  | .byteReceived d b => Sys2Proof.Machine.execByteReceived d b s
  | .messageSent d => Sys2Proof.Machine.execMessageSent d s

end Sys2Proof.Machine
end

