-- ==== Sys2Proof/Safety.lean ====
section
/-! DEFINITION. The laws the manual says the part keeps, as predicates on a state, and the order in which the
part's own steps may come. -/

namespace Sys2Proof.Safety

open Sys2Proof.Machine

/-! ### Laws -/

/-- The entries line n must have in studio x's queue: one, arriving no, when it is QUEUED there; one, arriving
yes, when it is leaving SCREEN for it; none otherwise (R27). -/
def entriesDue (st : LineState) (n : Line) (x : Studio) : List Entry :=
  match st with
  | .queued y => if y = x then [⟨n, false⟩] else []
  | .screen (.leaving (.queued y)) => if y = x then [⟨n, true⟩] else []
  | _ => []

/-- The law of the ready queues: every line's entries are the due ones, and no queue holds more than 8 (R27,
R28). -/
abbrev QueueLaw (lt : LineTable) : Prop :=
  (∀ n : Line, lt.queues.a.filter (fun e => e.line == n) = entriesDue lt.recs[n].state n .a) ∧
  (∀ n : Line, lt.queues.b.filter (fun e => e.line == n) = entriesDue lt.recs[n].state n .b) ∧
  lt.queues.a.length ≤ 8 ∧ lt.queues.b.length ≤ 8

/-- The destinations each group state may be leaving for (R63, R66, R67). -/
def destLegal : LineState → Bool
  | .screen (.leaving t) => t == .hold || t == .queued .a || t == .queued .b || t == .clearing
  | .air x (.leaving t) => t == .hold || t == .priv x || t == .clearing
  | .priv x (.leaving t) => t == .hold || t == .air x || t == .clearing
  | _ => true

/-- Every leaving line's destination is one its group state can leave for. -/
abbrev DestLaw (lt : LineTable) : Prop := ∀ n : Line, destLegal lt.recs[n].state = true

/-- No group's members and reservations exceed its capacity (R51). -/
abbrev CapacityLaw (lt : LineTable) : Prop :=
  occupancy lt (.air .a) ≤ 6 ∧ occupancy lt (.air .b) ≤ 6 ∧ occupancy lt (.priv .a) ≤ 4 ∧
  occupancy lt (.priv .b) ≤ 4 ∧ occupancy lt .screen ≤ 4

/-- A clearing count lies in 0 to 2000 (R1). -/
def countLegal : LineState → Bool
  | .clearing c => c ≤ 2000
  | _ => true

/-- Every field of a line record lies in its range (R1). -/
abbrev RecordLaw (lt : LineTable) : Prop :=
  ∀ n : Line, lt.recs[n].level ≤ 32767 ∧ lt.recs[n].ret ≤ 32767 ∧ lt.recs[n].label.length ≤ 24 ∧
    lt.recs[n].label.all printable = true ∧ countLegal lt.recs[n].state = true

/-- The settings of a studio context lie in their ranges (R100). -/
abbrev StudioLaw (c : StudioCtx) : Prop :=
  c.duck ≤ 4 ∧ c.stemGain ≤ 32767 ∧ c.holdGain ≤ 32767 ∧ c.privGain ≤ 32767 ∧
  1 ≤ c.failThr ∧ c.failThr ≤ 64 ∧ 1 ≤ c.revertThr ∧ c.revertThr ≤ 60000

/-- Every gain, current or target, is a gain code, and the context settings and talk timeouts lie in their ranges
(R75, R82, R100, R115). -/
abbrev GainLaw (s : State) : Prop :=
  StudioLaw s.ctx.studios.a ∧ StudioLaw s.ctx.studios.b ∧ s.ctx.screen.duck ≤ 4 ∧ s.ctx.screen.gain ≤ 32767 ∧
  (∀ n : Line, s.mix.send[n] ≤ 32767 ∧ s.mix.ret[n] ≤ 32767) ∧
  s.mix.gains.a.stem ≤ 32767 ∧ s.mix.gains.a.hold ≤ 32767 ∧ s.mix.gains.a.priv ≤ 32767 ∧
  s.mix.gains.b.stem ≤ 32767 ∧ s.mix.gains.b.hold ≤ 32767 ∧ s.mix.gains.b.priv ≤ 32767 ∧
  s.mix.screenTalk ≤ 32767 ∧ (∀ d : Desk, s.talk.gain[d] ≤ 32767 ∧ s.talk.timeout[d] ≤ 255)

/-- A feed's two runs lie in 0 to 65535, and at most one of them is above 0 (R100, R103). -/
abbrev FeedRunLaw (f : FeedRec) : Prop := f.goodRun ≤ 65535 ∧ f.badRun ≤ 65535 ∧ (f.goodRun = 0 ∨ f.badRun = 0)

/-- A path's two runs lie in 0 to 65535, and at most one of them is above 0 (R131, R134). -/
abbrev PathRunLaw (p : PathRec) : Prop := p.goodRun ≤ 65535 ∧ p.badRun ≤ 65535 ∧ (p.goodRun = 0 ∨ p.badRun = 0)

/-- A forced path mode keeps its own path active (R137). -/
abbrev ModeLaw (p : PathLine) : Prop :=
  (p.mode = .primary → p.active = .primary) ∧ (p.mode = .alternate → p.active = .alternate)

/-- The runs of every feed and path keep their law, and every line's counts and thresholds lie in their ranges
(R100, R103, R131, R134). -/
abbrev RunLaw (s : State) : Prop :=
  FeedRunLaw s.ctx.studios.a.stem ∧ FeedRunLaw s.ctx.studios.a.safe ∧ FeedRunLaw s.ctx.studios.b.stem ∧
  FeedRunLaw s.ctx.studios.b.safe ∧
  (∀ n : Line, PathRunLaw s.paths[n].primary ∧ PathRunLaw s.paths[n].alternate ∧ s.paths[n].arrival ≤ 20 ∧
    s.paths[n].gone ≤ 200 ∧ 1 ≤ s.paths[n].failThr ∧ s.paths[n].failThr ≤ 64 ∧ 1 ≤ s.paths[n].revertThr ∧
    s.paths[n].revertThr ≤ 60000)

/-- Every talk holder's link view is LIVE (R115, R122). -/
abbrev HolderLaw (s : State) : Prop :=
  ∀ n : Line, (s.talk.holds[n]).all (fun h => s.talk.view[h.holder] == .live) = true

/-- What a receive assembler can hold: at most one byte of a compact message, and in a full one a length of 2 to
60 and no more bytes after it than that (R159). -/
def assemblerLegal : Assembler → Bool
  | .hunt | .full [] => true
  | .compact got => got.length ≤ 1
  | .full (len :: got) => 2 ≤ len.toNat && len.toNat ≤ 60 && got.length ≤ len.toNat

/-- A controller's queues and counts lie in their ranges, and a LOST link's notice queue is empty with no
overflow counted (R160, R161, R163, R166, R167, R171, R172). -/
abbrev ControllerLaw (c : Controller) : Prop :=
  c.replies.length ≤ 16 ∧ c.notices.length ≤ 32 ∧ c.overflow ≤ 255 ∧ c.bad ≤ 65535 ∧ c.gap ≤ 21 ∧
  c.liveness ≤ 2000 ∧ c.mask.toNat ≤ 0x07FF ∧ assemblerLegal c.assembler = true ∧
  (c.link = .lost → c.notices = [] ∧ c.overflow = 0)

/-- The owners a command can be handed to. -/
def allOwners : List Owner :=
  [.lineTable, .talkArbiter, .contextStore, .mixEngine, .slotMap, .pathMonitor, .laneInterface, .loader,
   .controller]

/-- The commands handed to an owner and not yet taken. -/
def commandsTo (o : Owner) (c : Controller) : Nat :=
  (c.handed.filter (fun p => p.1 == o && (match p.2 with
    | .command _ _ _ => true
    | _ => false))).length

/-- The reply places that wait for an owner. -/
def placesFor (o : Owner) (c : Controller) : Nat := (c.replies.filter (fun p => p == .waiting o)).length

/-- Every command handed on and not yet decided has its own reply place waiting (R163). -/
abbrev ReplyLaw (c : Controller) : Prop := ∀ o ∈ allOwners, commandsTo o c = placesFor o c

/-- A command is handed to the block that owns it; a link event can stand beside any block (R162, R167). -/
def handedRight (p : Owner × Handed) : Bool :=
  match p.2 with
  | .command op _ _ => p.1 == ownerOf op
  | .live | .lost => true

/-- Every command a controller has handed on and its block has not taken stands beside the block that owns it
(R162). -/
abbrev HandedLaw (c : Controller) : Prop := c.handed.all handedRight = true

/-- The counts of the lanes lie in their ranges, and in REFERENCED the relock count stands at 250 (R147 to
R149). -/
abbrev ClockLaw (l : LaneInterface) : Prop :=
  l.frames ≤ 48 ∧ l.relock ≤ 250 ∧ (∀ i : Lane, l.unlocked[i] ≤ 65535) ∧ (l.clock = .referenced → l.relock = 250)

/-- The reading in hand is unfinished and its message number lies in 1 to the count of an image, and so does that of a
stored STOPPED result (R178). -/
def loaderLegal (l : Loader) : Bool :=
  (match l.stage with
   | .running => true
   | .header r => r.got.length < 4
   | .message k count r => 1 ≤ k && k ≤ count && count ≤ 1000 && imageUnfinished r.got) &&
  (match l.result with
   | some (.stopped k _) => 1 ≤ k && k ≤ 1000
   | _ => true)

/-- A value in the range of a sample (R74). -/
abbrev InSampleRange (v : Int) : Prop := -8388608 ≤ v ∧ v ≤ 8388607

/-- Every audio value the part computed lies in the range of a sample, and the meters lie in theirs (R73, R77,
R174). -/
abbrev OutputLaw (m : MixEngine) : Prop :=
  (∀ n : Line, InSampleRange (m.results.returns[n]).audio) ∧ (∀ i : Fin 5, InSampleRange m.results.groups[i]) ∧
  (∀ o : Output, (m.clips[o]).count ≤ 65535 ∧ (m.clips[o]).quiet ≤ 1001) ∧
  (∀ d : Desk, (∀ n : Line, (m.peaks[d]).input[n] ≤ 8388608 ∧ (m.peaks[d]).ret[n] ≤ 8388608) ∧
    (∀ i : Fin 5, (m.peaks[d]).group[i] ≤ 8388608))

/-! ### The order of the part's own steps

The spec leaves the order of the blocks' steps open (R16, R129) but for the orders below. mayHappen says when a
step of the part itself can come about. exec gives every command its effect whether or not it may happen
(log entry 4). -/

/-- The 48th frame's input of the block has been taken: the block is at its end (R147). -/
def atBlockEnd (s : State) : Bool := s.lanes.frames == 48

/-- A read of the Loader has waited 20 blocks: the memory has not answered it when the block ends (R178). -/
def readMayFail (s : State) : Bool :=
  match s.loader.stage with
  | .running => false
  | .header r | .message _ _ r => 20 ≤ readWait r s

/-- An owner may take a command only as the first thing it was handed by that controller (R122). -/
def ownerMay (op : Op) (m : Moment) (d : Desk) (line : Byte) (args : List Byte) (s : State) : Bool :=
  m != .decided || firstFor (ownerOf op) (s.desk d).handed == some (.command op line args)

/-- The step can come about in the state. Desk messages and received bytes can come at any time. -/
def mayHappen (c : Instr) (s : State) : Bool :=
  match c with
  | .reset _ _ _ | .nop _ _ _ | .linkStatus _ _ _ | .setMask _ _ _ | .unknownCommand _ _ _ _ | .badMessage _
  | .byteReceived _ _ => true
  | .answer m d line args => ownerMay .answer m d line args s
  | .hold m d line args => ownerMay .hold m d line args s
  | .queue m d line args => ownerMay .queue m d line args s
  | .recall m d line args => ownerMay .recall m d line args s
  | .promote m d line args => ownerMay .promote m d line args s
  | .give m d line args => ownerMay .give m d line args s
  | .take m d line args => ownerMay .take m d line args s
  | .takeNext m d line args => ownerMay .takeNext m d line args s
  | .privateTalk m d line args => ownerMay .privateTalk m d line args s
  | .park m d line args => ownerMay .park m d line args s
  | .drop m d line args => ownerMay .drop m d line args s
  | .talkOn m d line args => ownerMay .talkOn m d line args s
  | .talkOff m d line args => ownerMay .talkOff m d line args s
  | .setLevel m d line args => ownerMay .setLevel m d line args s
  | .setReturn m d line args => ownerMay .setReturn m d line args s
  | .setLabel m d line args => ownerMay .setLabel m d line args s
  | .setHome m d line args => ownerMay .setHome m d line args s
  | .forcePath m d line args => ownerMay .forcePath m d line args s
  | .setConf m d line args => ownerMay .setConf m d line args s
  | .setCtxGain m d line args => ownerMay .setCtxGain m d line args s
  | .setDuck m d line args => ownerMay .setDuck m d line args s
  | .setTalkGain m d line args => ownerMay .setTalkGain m d line args s
  | .readLine m d line args => ownerMay .readLine m d line args s
  | .readStudio m d line args => ownerMay .readStudio m d line args s
  | .readMeters m d line args => ownerMay .readMeters m d line args s
  | .mapInput m d line args => ownerMay .mapInput m d line args s
  | .mapOutput m d line args => ownerMay .mapOutput m d line args s
  | .setPathTiming m d line args => ownerMay .setPathTiming m d line args s
  | .setStemTiming m d line args => ownerMay .setStemTiming m d line args s
  | .setClock m d line args => ownerMay .setClock m d line args s
  | .setTalkTimeout m d line args => ownerMay .setTalkTimeout m d line args s
  | .loadConfig m d line args => ownerMay .loadConfig m d line args s
  | .messageGapTimeout d => assembling (s.desk d).assembler && 21 ≤ (s.desk d).gap
  | .commandDiscarded d => repliesFull (s.desk d)
  | .linkLost d => (s.desk d).link == .live && 2000 ≤ (s.desk d).liveness
  | .linkLiveAtLineTable d => firstFor .lineTable (s.desk d).handed == some .live
  | .linkLostAtLineTable d => firstFor .lineTable (s.desk d).handed == some .lost
  | .linkLiveAtTalkArbiter d => firstFor .talkArbiter (s.desk d).handed == some .live
  | .linkLostAtTalkArbiter d => firstFor .talkArbiter (s.desk d).handed == some .lost
  | .sendReply d => (s.desk d).tx == .idle && headFilled (s.desk d)
  | .sendNotice d => (s.desk d).tx == .idle && !headFilled (s.desk d) && !(s.desk d).notices.isEmpty
  | .messageSent d => (s.desk d).tx != .idle
  | .noticeOffer d => !(s.desk d).offered.isEmpty
  | .partyPresent n => s.wires.parties.head? == some (.present n)
  | .partyGone n => s.wires.parties.head? == some (.gone n)
  | .fadeComplete n tag => s.wires.fades.head? == some (n, tag)
  | .clearingTimeout n => (match (s.line n).state with
    | .clearing c => decide (2000 ≤ c)
    | _ => false)
  | .primaryRoleLoss roles => s.wires.mapChanges.head? == some roles
  | .stateChangedReport n => s.wires.reports.head? == some n
  | .pathRestart n toFree => s.wires.restarts.head? == some (n, toFree)
  | .clearingCountTick => atBlockEnd s && s.wires.mapChanges.isEmpty
  | .livenessBlockEnd _ | .talkTimeout | .clipQuietTick | .laneBlockEnd => atBlockEnd s
  | .pathBlockEnd => pathsEndDue s
  | .laneInputFrame _ => !atBlockEnd s
  | .frameComputation => 1 ≤ s.lanes.frames
  | .blockStart => atBlockEnd s && s.wires.mapChanges.isEmpty && !readMayFail s
  | .inputMapApply | .outputMapApply | .referenceLaneChange => s.lanes.frames == 0
  | .pendingClipNotice o => (s.mix.clips[o]).quiet == 0 && (s.mix.clips[o]).pending
  | .clockRelock => s.lanes.clock == .freeRun && s.lanes.relock == 250
  | .pendingModeApply n => pathsEndDue s && (s.paths[n]).pending.isSome
  | .failover n => pathsEndDue s && failoverDue (judgedLine n s)
  | .revert n => pathsEndDue s && revertDue (judgedLine n s)
  | .baseLevelTransition x => feedsEndDue s && levelAtEnd x s != (s.ctx.studios.get x).base
  | .feedJudgement => feedsEndDue s
  | .loaderHeader _ _ _ _ => (match s.loader.stage with
    | .header r => readWait r s ≤ 20
    | _ => false)
  | .loaderMessage _ => (match s.loader.stage with
    | .message _ _ r => readWait r s ≤ 20
    | _ => false)
  | .memoryTimeout => readMayFail s

end Sys2Proof.Safety
end

