-- ==== Sys2Proof/Claims.lean ====
section
/-! DEFINITION. The words the statements are written in: the row of a desk command, what a step of the Line
Table hands on, the reply an owner hands back, what a good message does at its controller, and the numbers of
the mix. Each is written from the rule it names, apart from the meanings it is used to state. -/

namespace Sys2Proof.Claims

open Sys2Proof.Machine

/-! ### Commands -/

/-- The row of a desk command. NOP, LINK-STATUS and SET-MASK have one moment only. -/
def commandOf (op : Op) (m : Moment) (d : Desk) (line : Byte) (args : List Byte) : Instr :=
  match op with
  | .nop => .nop d line args
  | .answer => .answer m d line args
  | .hold => .hold m d line args
  | .queue => .queue m d line args
  | .recall => .recall m d line args
  | .promote => .promote m d line args
  | .give => .give m d line args
  | .take => .take m d line args
  | .takeNext => .takeNext m d line args
  | .privateTalk => .privateTalk m d line args
  | .park => .park m d line args
  | .drop => .drop m d line args
  | .talkOn => .talkOn m d line args
  | .talkOff => .talkOff m d line args
  | .setLevel => .setLevel m d line args
  | .setReturn => .setReturn m d line args
  | .setLabel => .setLabel m d line args
  | .setHome => .setHome m d line args
  | .forcePath => .forcePath m d line args
  | .setConf => .setConf m d line args
  | .setCtxGain => .setCtxGain m d line args
  | .setDuck => .setDuck m d line args
  | .setTalkGain => .setTalkGain m d line args
  | .readLine => .readLine m d line args
  | .readStudio => .readStudio m d line args
  | .readMeters => .readMeters m d line args
  | .linkStatus => .linkStatus d line args
  | .setMask => .setMask d line args
  | .mapInput => .mapInput m d line args
  | .mapOutput => .mapOutput m d line args
  | .setPathTiming => .setPathTiming m d line args
  | .setStemTiming => .setStemTiming m d line args
  | .setClock => .setClock m d line args
  | .setTalkTimeout => .setTalkTimeout m d line args
  | .loadConfig => .loadConfig m d line args

/-- The command is the first thing its owner has been handed by desk d's controller (R122, R162). -/
abbrev Waits (s : State) (d : Desk) (op : Op) (line : Byte) (args : List Byte) : Prop :=
  firstFor (ownerOf op) (s.desk d).handed = some (.command op line args)

/-! ### The Line Table's results (R17) -/

/-- The four fields of a LINE-STATE notice (R17). -/
def fields (st : LineState) : Byte × Option Studio × Option Phase × Option Dest :=
  (stateByte st, studioOf st, phaseOf st, destOf st)

/-- The lines, in ascending order, for which a test holds. -/
def linesWhere (p : Line → Bool) : List Line := allLines.filter p

/-- The notices of a step of the Line Table: LINE-STATE for each line whose four fields changed, in ascending
line order, then QUEUE for each queue that changed, A before B (R17, R31). -/
def lineNews (old new : LineTable) : List Notice :=
  (linesWhere (fun n => fields old.recs[n].state != fields new.recs[n].state)).map
    (fun n => .lineState n (shown new.recs[n].state)) ++
  ((if old.queues.a = new.queues.a then [] else [.queue .a new.queues.a]) ++
   (if old.queues.b = new.queues.b then [] else [.queue .b new.queues.b]))

/-- The state after a step of the Line Table that gives it the contents lt: the notices go to all three
controllers, the lines whose four fields or home studio changed are reported to the Talk Arbiter, and the
lines moved to FREE (true) or from FREE (false) are handed to the Path Monitor as restarts (R17, R143).
Nothing else changes. -/
def lineStep (lt : LineTable) (s : State) : State :=
  { s with
    lines := lt
    desks := Vector.ofFn fun e => { s.desks[e] with offered := s.desks[e].offered ++ lineNews s.lines lt }
    wires := { s.wires with
      reports := s.wires.reports ++ linesWhere (fun n =>
        fields s.lines.recs[n].state != fields lt.recs[n].state || s.lines.recs[n].home != lt.recs[n].home)
      restarts := s.wires.restarts ++ (linesWhere (fun n =>
        isFree s.lines.recs[n].state != isFree lt.recs[n].state)).map (fun n => (n, isFree lt.recs[n].state)) } }

/-- A Line Table with line n's record and the two queues replaced. -/
def put (n : Line) (r : LineRec) (q : PerStudio (List Entry)) (lt : LineTable) : LineTable :=
  { lt with recs := lt.recs.set n r, queues := q }

/-- The queues without line n's entries; those behind close up (R29). -/
def without (n : Line) (q : PerStudio (List Entry)) : PerStudio (List Entry) :=
  ⟨q.a.filter (fun e => e.line != n), q.b.filter (fun e => e.line != n)⟩

/-- The queues with an entry at the tail of studio x's (R28). -/
def atTail (x : Studio) (e : Entry) (q : PerStudio (List Entry)) : PerStudio (List Entry) :=
  match x with
  | .a => ⟨q.a ++ [e], q.b⟩
  | .b => ⟨q.a, q.b ++ [e]⟩

/-- One studio's queue changed by f. -/
def onQueue (x : Studio) (f : List Entry → List Entry) (q : PerStudio (List Entry)) : PerStudio (List Entry) :=
  match x with
  | .a => ⟨f q.a, q.b⟩
  | .b => ⟨q.a, f q.b⟩

/-! ### Replies (R162, R163) -/

/-- The state after an owner has handed back its result: the command is taken off desk d's controller, and the
first place that waits for that owner holds the reply (R163). Nothing else changes. -/
def answered (d : Desk) (op : Op) (line : Byte) (r : Result) (clamped : Bool) (data : List Byte) (s : State) :
    State :=
  { s with desks := s.desks.set d { s.desks[d] with
      replies := fillPlace (ownerOf op) ⟨opCode op, line, r, clamped, data⟩ s.desks[d].replies
      handed := dropFirstFor (ownerOf op) s.desks[d].handed } }

/-- The state after an owner has refused the command: the reply alone (R13, R164). -/
def refusedWith (d : Desk) (op : Op) (line : Byte) (r : Result) (s : State) : State :=
  answered d op line r false [] s

/-- A notice handed to all three controllers (R170). -/
def noticed (ns : List Notice) (s : State) : State :=
  { s with desks := Vector.ofFn fun e => { s.desks[e] with offered := s.desks[e].offered ++ ns } }

/-! ### A good message at its controller (R159, R163, R166, R167) -/

/-- A LOST link's notice queue is empty and its overflow count 0 (R167, R172). -/
abbrev LostIsEmpty (c : Controller) : Prop := c.link = .lost → c.notices = [] ∧ c.overflow = 0

/-- The HELLO notice's data as they stand (R173). -/
def helloNow (s : State) : Notice :=
  .hello (s.loader.stage == .running) s.lanes.clock s.ctx.studios.a.base s.ctx.studios.b.base
    (linesWhere (fun n => s.lines.recs[n].state != .free)).length

/-- The state after a good message at desk d's controller that puts the given places into its reply queue,
sets the discarded flag when told to, and hands the given items on. The assembler is back in HUNT and the
liveness count is 0. A LOST link goes LIVE: link-LIVE events go to the Talk Arbiter and the Line Table before
anything else handed on, what was offered while it was LOST is not entered, HELLO is entered when its mask bit is 1, and
the other two controllers are handed a LINK notice (R159, R163, R166, R167, R172, R173). -/
def messageTaken (d : Desk) (places : List Place) (flag : Bool) (more : List (Owner × Handed)) (s : State) :
    State :=
  { s with desks := Vector.ofFn fun e =>
      let c := s.desks[e]
      if e = d then
        { c with
          assembler := .hunt
          gap := 0
          liveness := 0
          link := .live
          offered := if c.link = .lost then [] else c.offered
          discarded := c.discarded || flag
          replies := c.replies ++ places
          handed := c.handed ++
            (if c.link = .lost then [(.talkArbiter, .live), (.lineTable, .live)] else []) ++ more
          notices := c.notices ++
            (if c.link = .lost ∧ c.mask.getLsbD 9 = true then [⟨s.lanes.block, helloNow s⟩] else []) }
      else if s.desks[d].link = .lost then { c with offered := c.offered ++ [.link d .live] }
      else c }

/-- A message that fails: discarded whole, counted, and the assembler back in HUNT (R159, R160, R161). -/
def messageLost (d : Desk) (s : State) : State :=
  { s with desks := s.desks.set d { s.desks[d] with
      assembler := .hunt
      gap := 0
      bad := if s.desks[d].bad < 65535 then s.desks[d].bad + 1 else s.desks[d].bad } }

/-- Desk d's link goes LOST: link-LOST events after everything handed before, an empty notice queue with no
overflow counted, and a LINK notice to the other two controllers (R167, R172). -/
def linkGone (d : Desk) (s : State) : State :=
  { s with desks := Vector.ofFn fun e =>
      let c := s.desks[e]
      if e = d then
        { c with
          link := .lost
          notices := []
          overflow := 0
          handed := c.handed ++ [(.talkArbiter, .lost), (.lineTable, .lost)] }
      else { c with offered := c.offered ++ [.link d .lost] } }

/-! ### Numbers of replies and notices (R164, R169, R170) -/

/-- The number of a studio (R169). -/
def studioNumber : Studio → Nat
  | .a => 0
  | .b => 1

/-- The number of a destination (R169). -/
def destNumber : Dest → Nat
  | .hold => 0
  | .queued x => 1 + studioNumber x
  | .air x => 3 + studioNumber x
  | .priv x => 5 + studioNumber x
  | .clearing => 8

/-- State, studio, phase and destination of a line, 255 for an absent field (R169). -/
def stateNumbers : LineState → List Nat
  | .free => [0, 255, 255, 255]
  | .waiting => [1, 255, 255, 255]
  | .screen .steady => [2, 255, 0, 255]
  | .screen (.leaving t) => [2, 255, 1, destNumber t]
  | .hold => [3, 255, 255, 255]
  | .queued x => [4, studioNumber x, 255, 255]
  | .air x .steady => [5, studioNumber x, 0, 255]
  | .air x (.leaving t) => [5, studioNumber x, 1, destNumber t]
  | .priv x .steady => [6, studioNumber x, 0, 255]
  | .priv x (.leaving t) => [6, studioNumber x, 1, destNumber t]
  | .clearing _ => [7, 255, 255, 255]

/-- The number of a base level (R169). -/
def baseNumber : BaseLevel → Nat
  | .normal => 0
  | .safe => 1
  | .bare => 2

/-- The number of a path judgement (R169, R170). -/
def judgementNumber : Judgement → Nat
  | .bad => 0
  | .good => 1
  | .none => 2

/-- The number of the cause of a TALK notice (R170). -/
def causeNumber : TalkCause → Nat
  | .granted => 0
  | .preempted => 1
  | .talkOff => 2
  | .state => 3
  | .linkLost => 4
  | .fallbackEnd => 5
  | .timeout => 6

/-- The code of a notice's kind (R170). -/
def kindNumber : Notice → Nat
  | .lineState _ _ => 0
  | .queue _ _ => 1
  | .path _ _ _ _ _ => 2
  | .base _ _ => 3
  | .talk _ _ _ _ => 4
  | .clip _ _ => 5
  | .link _ _ => 6
  | .clock _ _ => 7
  | .load _ => 8
  | .hello _ _ _ _ _ => 9
  | .lostNotices _ => 10

/-- The data of a notice of each kind, byte by byte; a number above 255 stands for its low 8 bits (R170). -/
def noticeNumbers : Notice → List Nat
  | .lineState n st => (n.val + 1) :: stateNumbers st
  | .queue x q =>
    [studioNumber x, q.length] ++ q.flatMap (fun e => [e.line.val + 1, if e.arriving then 1 else 0])
  | .path n active first second fault =>
    [n.val + 1, if active = .primary then 0 else 1, judgementNumber first, judgementNumber second,
      if fault then 1 else 0]
  | .base x level => [studioNumber x, baseNumber level]
  | .talk n now before cause =>
    [n.val + 1, now.elim 255 (fun d => d.val), before.elim 255 (fun d => d.val), causeNumber cause]
  | .clip o count => [o.val + 1, count / 256, count]
  | .link d st => [d.val, if st = .live then 1 else 0]
  | .clock st ref => [if st = .referenced then 1 else 0, ref.val]
  | .load .ok => [0, 0, 0, 0]
  | .load .absent => [1, 0, 0, 0]
  | .load .badHeader => [2, 0, 0, 0]
  | .load (.stopped k reason) => [3, k / 256, k, reason.toNat]
  | .hello running clock a b busy =>
    [if running then 1 else 0, if clock = .referenced then 1 else 0, baseNumber a, baseNumber b, 0, busy]
  | .lostNotices count => [count]

/-- The data bytes of a notice (R170). -/
def noticeSays (n : Notice) : List Byte := (noticeNumbers n).map (fun v => BitVec.ofNat 8 v)

/-- The number of a result (section 9.5). -/
def resultNumber : Result → Nat
  | .done => 0
  | .wrongState => 1
  | .notYours => 2
  | .full => 3
  | .empty => 4
  | .busy => 5
  | .noLine => 6
  | .noParty => 7
  | .notEquipped => 8
  | .notPermitted => 9
  | .badValue => 10
  | .unknown => 11
  | .starting => 12

/-- The bytes of a message from the part: a lead, the length of the body, the body, and a check (R164). -/
def sent (lead : Byte) (body : List Byte) : List Byte :=
  let counted := BitVec.ofNat 8 body.length :: body
  lead :: (counted ++ [0 - counted.sum])

/-! ### Tables of the Line Table's checks -/

/-- The line commands that pass through the check order with a line of their own (section 1.5). -/
def lineOps : List Op :=
  [.answer, .hold, .queue, .recall, .promote, .give, .take, .privateTalk, .park, .drop, .setLevel, .setReturn,
   .setLabel, .setHome, .forcePath]

/-- The arguments lie in their domains (R12, section 9.5). -/
def argsInDomain (op : Op) (args : List Byte) : Bool :=
  argCountFits op args.length &&
  (match op with
   | .queue | .give | .setHome => args.all (fun b => b.toNat ≤ 1)
   | .forcePath => args.all (fun b => b.toNat ≤ 2)
   | .setLabel => args.all (fun b => 0x20 ≤ b.toNat && b.toNat ≤ 0x7E)
   | _ => true)

/-- A desk's rights on a line by its present state, with fallback rights in force or not (R9, R10). -/
def rightsOf (fallback : Bool) (d : Desk) (r : LineRec) : Bool :=
  let screening := d == 2 || (fallback && d == deskOf r.home)
  match r.state with
  | .air x _ | .priv x _ => d == deskOf x
  | .queued x => d == 2 || d == deskOf x
  | .screen (.leaving (.queued x)) => screening || d == deskOf x
  | .screen _ | .waiting | .hold => screening
  | .free | .clearing _ => false

/-- Desk d passes step 4 with the command on a line that is not FREE: by its rights; by R11 for TAKE and PRIVATE
on a HOLD line; on a CLEARING line (R15). SET-HOME is the screen desk's alone (R25). -/
def maySend (fallback : Bool) (op : Op) (d : Desk) (r : LineRec) : Bool :=
  (op != .setHome || d == 2) &&
  (rightsOf fallback d r || isClearing r.state ||
    ((op == .take || op == .privateTalk) && r.state == .hold && d == deskOf r.home))

/-- Step 5: the line is not LEAVING, or the command is a DROP, or a TAKE on an AIR line (R14). -/
def passesFive (op : Op) (st : LineState) : Bool :=
  match op, st with
  | .drop, _ => true
  | .take, .air _ _ => true
  | _, .screen (.leaving _) | _, .air _ (.leaving _) | _, .priv _ (.leaving _) => false
  | _, _ => true

/-- Step 6: the states in which a command from desk d is legal, for commands that passed steps 1 to 5 (R15,
R25, R32, R54). FORCE-PATH ALTERNATE needs the alternate role as well (R144). -/
def legal (op : Op) (d : Desk) (r : LineRec) : Bool :=
  match op, r.state with
  | .answer, .waiting | .answer, .hold => true
  | .hold, .waiting | .hold, .screen _ => true
  | .queue, .waiting | .queue, .hold | .queue, .screen _ => true
  | .queue, .queued _ => d == 2
  | .recall, .queued _ => d == 2
  | .promote, .queued _ => true
  | .give, .queued _ => d != 2
  | .drop, .free | .drop, .clearing _ => false
  | .drop, _ => true
  | .take, .queued x => d == deskOf x
  | .take, .hold => d == deskOf r.home
  | .take, .priv x _ => d == deskOf x
  | .take, .air x (.leaving _) => d == deskOf x
  | .privateTalk, .queued x => d == deskOf x
  | .privateTalk, .hold => d == deskOf r.home
  | .privateTalk, .air x _ => d == deskOf x
  | .park, .air x _ | .park, .priv x _ => d == deskOf x
  | .setHome, .waiting | .setHome, .hold => true
  | .setLevel, .free | .setReturn, .free | .setLabel, .free | .forcePath, .free => false
  | .setLevel, .clearing _ | .setReturn, .clearing _ | .setLabel, .clearing _ | .forcePath, .clearing _ => false
  | .setLevel, _ | .setReturn, _ | .setLabel, _ | .forcePath, _ => true
  | _, _ => false

/-- Members and reservations of a group, counted from the records (R6, R7, R8). -/
def occupied (lt : LineTable) (g : Group) : Nat :=
  (linesWhere (fun n => memberGroup lt.recs[n].state == some g)).length +
  (linesWhere (fun n => reservedGroup lt.recs[n].state == some g)).length

/-- The studio an argument names. -/
def namedStudio (args : List Byte) : Studio := if args.head? = some 0 then .a else .b

/-- Step 7: the group or queue the move needs has room, for a legal command (R8, R28, R51). -/
def room (op : Op) (d : Desk) (args : List Byte) (r : LineRec) (lt : LineTable) : Bool :=
  let x := namedStudio args
  let own : Studio := if d = 0 then .a else .b
  match op, r.state with
  | .answer, _ | .recall, _ => occupied lt .screen < 4
  | .queue, .queued y | .give, .queued y => x == y || (queueOf lt x).length < 8
  | .queue, _ => (queueOf lt x).length < 8
  | .take, .air _ _ => true
  | .take, _ => occupied lt (.air own) < 6
  | .privateTalk, _ => occupied lt (.priv own) < 4
  | _, _ => true

/-- The first check that fails, for a line command with a line of its own: the arguments, then steps 1 to 7
(R12, R13). FORCE-PATH's further condition of step 6 is left to its own statement. -/
def firstRefusal (op : Op) (d : Desk) (line : Byte) (args : List Byte) (s : State) : Option Result :=
  if argsInDomain op args = false then some .badValue
  else
    match lineOfByte line with
    | none => some .noLine
    | some n =>
      let r := s.line n
      if equipped s n = false then some .notEquipped
      else if r.state = .free then some .noParty
      else if maySend s.lines.fallback op d r = false then some .notYours
      else if passesFive op r.state = false then some .busy
      else if legal op d r = false then some .wrongState
      else if room op d args r s.lines = false then some .full
      else none

/-- The command waits for its owner, names line n, and fails none of the checks, so it is taken (R13). -/
abbrev Accepted (s : State) (d : Desk) (op : Op) (line : Byte) (args : List Byte) (n : Line) : Prop :=
  Waits s d op line args ∧ argCountFits op args.length = true ∧ firstRefusal op d line args s = none ∧
  lineOfByte line = some n

/-- The record after a leave has started: phase LEAVING with the destination, and the leave tag advanced by one
(R6, R63). -/
def leaving (r : LineRec) (t : Dest) : LineRec :=
  { r with
    state := match r.state with
      | .screen _ => .screen (.leaving t)
      | .air x _ => .air x (.leaving t)
      | .priv x _ => .priv x (.leaving t)
      | st => st
    tag := r.tag + 1 }

/-- A taken line command: the Line Table's step that replaces line n's record and the queues, then the reply DONE
with its data (R13, R17). -/
def lineDone (d : Desk) (op : Op) (line : Byte) (data : List Byte) (n : Line) (r : LineRec)
    (q : PerStudio (List Entry)) (s : State) : State :=
  answered d op line .done false data (lineStep (put n r q s.lines) s)

/-! ### Numbers of the mix -/

/-- One ramp step of R82: by 128 when the distance is 128 or more, by the whole distance when it is less. -/
def rampToward (target current : Nat) : Nat :=
  if current + 128 ≤ target then current + 128
  else if target + 128 ≤ current then current - 128
  else target

/-- The round-shift of R76: add 2^(n-1), divide by 2^n, take the floor. -/
def rounded (n : Nat) (v : Int) : Int := Int.fdiv (v + 2 ^ (n - 1)) (2 ^ n)

/-- The saturation of R77. -/
def inRange (v : Int) : Int := max (-8388608) (min 8388607 v)

/-- A role's sample for the frame: the audio of its slot when the role is assigned, the slot carried VALID 1 and
its lane counted as locked, and 0 otherwise (R80, R132). -/
def sampleOf (s : State) (role : Fin 44) : Int :=
  match s.maps.input[role] with
  | some a =>
    if (s.lanes.input[slotIndex a]).valid = true ∧ s.lanes.locked[a.lane] = true then
      (s.lanes.input[slotIndex a]).audio.toInt
    else 0
  | none => 0

/-- The role of line n's active path (R131, R132). -/
def activeRole (s : State) (n : Line) : Fin 44 :=
  match (s.paths[n]).active with
  | .primary => primaryRole n
  | .alternate => alternateRole n

/-- Line n's input sample for the frame: 0 for a line that is not equipped (R79, R132). -/
def lineInput (s : State) (n : Line) : Int :=
  if (s.maps.input[primaryRole n]).isSome then sampleOf s (activeRole s n) else 0

/-- The members of a group, in ascending line order (R51). -/
def groupMembers (lt : LineTable) (g : Group) : List Line :=
  linesWhere (fun n => memberGroup lt.recs[n].state == some g)

/-- The exact sum of the contributions of a list of lines at the given send gains (R87, R88). -/
def heard (s : State) (send : Vector Nat 16) (lines : List Line) : Int :=
  (lines.map (fun n => lineInput s n * (send[n] : Int))).sum

/-- The base term of a line: its base sample times the current gain that goes with it (R90). -/
def baseOf (s : State) (m : MixEngine) (n : Line) : Int :=
  match (s.line n).state with
  | .air x _ =>
    (match (s.ctx.studios.get x).base with
     | .normal => sampleOf s (stemRole x)
     | .safe => sampleOf s (safeRole x)
     | .bare => 0) * ((m.gains.get x).stem : Int)
  | .priv x _ => sampleOf s (privTalkRole x) * ((m.gains.get x).priv : Int)
  | .screen _ => sampleOf s screenTalkRole * (m.screenTalk : Int)
  | .queued x => sampleOf s (holdRole x) * ((m.gains.get x).hold : Int)
  | .waiting => sampleOf s (holdRole (s.line n).home) * ((m.gains.get (s.line n).home).hold : Int)
  | .hold => sampleOf s (holdRole (s.line n).home) * ((m.gains.get (s.line n).home).hold : Int)
  | .free => 0
  | .clearing _ => 0

/-- The others term of a line: the contributions of the other members of its group while the conference that
applies to the group is on (R91). -/
def othersOf (s : State) (m : MixEngine) (n : Line) : Int :=
  match (s.line n).state with
  | .air x _ =>
    if (s.ctx.studios.get x).airConf then
      heard s m.send ((groupMembers s.lines (.air x)).filter (fun k => k != n)) else 0
  | .priv x _ =>
    if (s.ctx.studios.get x).privConf then
      heard s m.send ((groupMembers s.lines (.priv x)).filter (fun k => k != n)) else 0
  | .screen _ =>
    if s.ctx.screen.conf then heard s m.send ((groupMembers s.lines .screen).filter (fun k => k != n)) else 0
  | _ => 0

/-- The duck depth of a line's context (R81, R93). -/
def depthOf (s : State) (n : Line) : Nat :=
  match (s.line n).state with
  | .screen _ => s.ctx.screen.duck
  | .air x _ | .priv x _ | .queued x => (s.ctx.studios.get x).duck
  | _ => (s.ctx.studios.get (s.line n).home).duck

/-- The return of a line in a state other than FREE and CLEARING, before saturation: pre-return, duck, return
level, talk term, round-shift (R92 to R95). -/
def returnOf (s : State) (m : MixEngine) (n : Line) : Int :=
  let a := rounded 14 (baseOf s m n + othersOf s m n)
  let d := if (s.talk.holds[n]).isSome ∧ 1 ≤ depthOf s n then rounded (depthOf s n) a else a
  let talk : Int :=
    match s.talk.holds[n] with
    | some h => sampleOf s (talkRole h.holder) * (s.talk.gain[h.holder] : Int)
    | none => 0
  rounded 14 (d * (m.ret[n] : Int) + talk)

/-! ### Talk (R116, R125) -/

/-- Desk d's talk rights on line n (R116). -/
def mayTalk (s : State) (d : Desk) (n : Line) : Bool :=
  s.talk.view[d] == .live && rightsOf (s.lines.fallback && s.talk.view[(2 : Desk)] == .lost) d (s.line n)

/-- The state with line n's hold replaced. -/
def withHold (n : Line) (h : Option Hold) (s : State) : State :=
  { s with talk := { s.talk with holds := s.talk.holds.set n h } }

/-- The line's talk holder (R115). -/
def holder (s : State) (n : Line) : Option Desk := (s.talk.holds[n]).map (fun h => h.holder)

/-- The state after the Talk Arbiter has released, in one step, the lines a test picks: no holder, and one TALK
notice with the cause for each, in ascending line order (R122 to R125). -/
def releases (p : Line → Bool) (cause : TalkCause) (s : State) : State :=
  noticed ((linesWhere p).map (fun n => .talk n none (holder s n) cause))
    { s with talk := { s.talk with holds := Vector.ofFn fun n => if p n then none else s.talk.holds[n] } }

/-! ### Paths and feeds -/

/-- The role is assigned, its lane was LOCKED for the block just ended, and its slot carried VALID 1 in all 48
frames of the block (R102, R133). -/
def roleGood (s : State) (role : Fin 44) : Bool :=
  match s.maps.input[role] with
  | some a => s.lanes.frames == 48 && s.lanes.lockedSoFar[a.lane] && s.lanes.validSoFar[slotIndex a]
  | none => false

/-- The judgement of a line's path for the block just ended (R133). -/
def judged (s : State) (n : Line) (role : Fin 44) : Judgement :=
  if equipped s n = false ∨ s.maps.input[role] = none then .none
  else if roleGood s role then .good
  else .bad

/-- A path's connected value after the block end (R135). -/
def connectedAfter (s : State) (n : Line) (role : Fin 44) (before : Bool) : Bool :=
  match s.maps.input[role] with
  | some a =>
    if equipped s n = false then false
    else if s.lanes.frames = 48 ∧ s.lanes.lockedSoFar[a.lane] = true then
      (s.lanes.input[slotIndex a]).connected
    else before
  | none => false

/-- A count raised by 1 that stops at a limit. -/
def raised (limit n : Nat) : Nat := if n < limit then n + 1 else n

/-- A path record after a block end that judged it j, from the runs it had (R133 to R135). -/
def pathAfter (j : Judgement) (connected : Bool) (good bad : Nat) : PathRec :=
  match j with
  | .good => ⟨.good, raised 65535 good, 0, connected⟩
  | .bad => ⟨.bad, 0, raised 65535 bad, connected⟩
  | .none => ⟨.none, 0, 0, connected⟩

/-- A feed record after a block end (R102, R103). -/
def feedAfter (good : Bool) (f : FeedRec) : FeedRec :=
  if good then ⟨true, raised 65535 f.goodRun, 0⟩ else ⟨false, 0, raised 65535 f.badRun⟩

/-- The base level after the tests of R104, from the level, the runs and the safe feed's judgement after the
block end. -/
def levelAfter (c : StudioCtx) : BaseLevel :=
  match c.base with
  | .normal => if c.failThr ≤ c.stem.badRun then (if c.safe.good then .safe else .bare) else .normal
  | .safe =>
    if c.revertThr ≤ c.stem.goodRun then .normal else if c.failThr ≤ c.safe.badRun then .bare else .safe
  | .bare =>
    if c.revertThr ≤ c.stem.goodRun then .normal else if c.revertThr ≤ c.safe.goodRun then .safe else .bare

/-- The path record after a line's path has its pending mode applied: runs 0 (R137). -/
def noRuns (p : PathRec) : PathRec := { p with goodRun := 0, badRun := 0 }

/-- Line n's path values after the Path Monitor's block end, before it reports (R133 to R138, R141, R142). -/
def pathLineAfter (s : State) (n : Line) : PathLine :=
  let p := s.paths[n]
  let mode := p.pending.getD p.mode
  let before : PathSide :=
    match p.pending with
    | some .primary => .primary
    | some .alternate => .alternate
    | _ => p.active
  let runs (r : PathRec) : Nat × Nat := if p.pending.isSome then (0, 0) else (r.goodRun, r.badRun)
  let after (role : Fin 44) (r : PathRec) : PathRec :=
    pathAfter (judged s n role) (connectedAfter s n role r.connected) (runs r).1 (runs r).2
  let first := after (primaryRole n) p.primary
  let second := after (alternateRole n) p.alternate
  let active : PathSide :=
    if mode ≠ .auto then before
    else
      match before with
      | .primary => if p.failThr ≤ first.badRun ∧ second.judgement = .good then .alternate else .primary
      | .alternate =>
        if p.failThr ≤ second.badRun ∧ first.judgement = .good then .primary
        else if p.autoRevert = true ∧ p.revertThr ≤ first.goodRun then .primary
        else .alternate
  let here := equipped s n && (first.connected || second.connected)
  let free : Bool := (s.line n).state == .free
  { p with
    primary := first
    alternate := second
    mode := mode
    pending := none
    active := active
    fault := equipped s n && decide (p.failThr ≤ (if active = .primary then first.badRun else second.badRun))
    arrival := if free then (if here then raised 20 p.arrival else 0) else p.arrival
    gone := if free then p.gone else if here then 0 else raised 200 p.gone }

/-! ### One frame (R78) -/

/-- The gains after the frame's ramp step (R82 to R85). -/
def gainsAfter (s : State) : MixEngine :=
  let base (c : StudioCtx) (g : BaseGains) : BaseGains :=
    ⟨rampToward c.stemGain g.stem, rampToward c.holdGain g.hold, rampToward c.privGain g.priv⟩
  { s.mix with
    send := Vector.ofFn fun n => rampToward
      (match (s.line n).state with
       | .screen .steady => (s.line n).level
       | .air _ .steady => (s.line n).level
       | .priv _ .steady => (s.line n).level
       | _ => 0) s.mix.send[n]
    ret := Vector.ofFn fun n => rampToward (s.line n).ret s.mix.ret[n]
    gains := ⟨base s.ctx.studios.a s.mix.gains.a, base s.ctx.studios.b s.mix.gains.b⟩
    screenTalk := rampToward s.ctx.screen.gain s.mix.screenTalk }

/-- The five groups in group order (R170). -/
def groupsInOrder : List Group := [.air .a, .air .b, .priv .a, .priv .b, .screen]

/-- The value of an output before saturation: a line's return, or a group's sum after its round-shift; 0 for a
FREE or CLEARING line (R88, R89, R95). The gains in m are those after the ramp step. -/
def outputBefore (s : State) (m : MixEngine) (o : Output) : Int :=
  if h : o.val < 16 then
    let n : Line := ⟨o.val, h⟩
    match (s.line n).state with
    | .free => 0
    | .clearing _ => 0
    | _ => returnOf s m n
  else rounded 14 (heard s m.send (groupMembers s.lines (groupsInOrder.getD (o.val - 16) .screen)))

/-- An output slot's 32 bits: the audio in bits 31 to 8, VALID in bit 7, RELEASE in bit 5 (R146). -/
def slotBits (audio : AudioField) (valid release : Bool) : SlotWord :=
  BitVec.ofNat 32 (audio.toNat * 256 + (if valid then 128 else 0) + (if release then 32 else 0))

/-- What an output slot carries, by its function and a computation's results (R154). -/
def slotCarries (f : OutFn) (r : Results) : SlotWord :=
  match f with
  | .none => slotBits 0 false false
  | .ret n => slotBits (BitVec.ofInt 24 (r.returns[n]).audio) (r.returns[n]).valid (r.returns[n]).release
  | .airMix .a => slotBits (BitVec.ofInt 24 r.groups[(0 : Fin 5)]) true false
  | .airMix .b => slotBits (BitVec.ofInt 24 r.groups[(1 : Fin 5)]) true false
  | .privMix .a => slotBits (BitVec.ofInt 24 r.groups[(2 : Fin 5)]) true false
  | .privMix .b => slotBits (BitVec.ofInt 24 r.groups[(3 : Fin 5)]) true false
  | .screenMix => slotBits (BitVec.ofInt 24 r.groups[(4 : Fin 5)]) true false
  | .copy a => slotBits (r.copies[slotIndex a]).audio (r.copies[slotIndex a]).valid false

/-- A saturation changes the value (R77, R96). -/
def clips (v : Int) : Bool := decide (v < -8388608 ∨ 8388607 < v)

/-- The clip record of an output after a clip is counted on it (R96, R174). -/
def clipCounted (c : ClipRec) : ClipRec :=
  if c.quiet = 0 then ⟨raised 65535 c.count, 1001, c.pending⟩ else ⟨raised 65535 c.count, c.quiet, true⟩

/-- The outputs a test picks, in output order. -/
def outputsWhere (p : Output → Bool) : List Output := (List.finRange 21).filter p

/-! ### Settings and loads -/

/-- The record of the context a byte names is changed: 0 Studio A, 1 Studio B, 2 Screen (section 9.5). -/
def withContext (c : Byte) (f : StudioCtx → StudioCtx) (g : ScreenCtx → ScreenCtx) (s : State) : State :=
  { s with ctx :=
      if c.toNat = 0 then { s.ctx with studios := ⟨f s.ctx.studios.a, s.ctx.studios.b⟩ }
      else if c.toNat = 1 then { s.ctx with studios := ⟨s.ctx.studios.a, f s.ctx.studios.b⟩ }
      else { s.ctx with screen := g s.ctx.screen } }

/-- Desk d may set the context a byte names: its own, or any with its ENG strap high (R109). -/
def setsContext (s : State) (d : Desk) (c : Byte) : Bool := (s.desk d).strap || d.val == c.toNat

/-- A two-byte gain as carried and as stored (section 9.5). -/
def carriedWord (hi lo : Byte) : Nat := hi.toNat * 256 + lo.toNat

/-- A value as two bytes, high byte first (R164). -/
def asTwo (v : Nat) : List Byte := [BitVec.ofNat 8 (v / 256), BitVec.ofNat 8 v]

/-- A value as three bytes, high byte first (R175). -/
def asThree (v : Nat) : List Byte := [BitVec.ofNat 8 (v / 65536), BitVec.ofNat 8 (v / 256), BitVec.ofNat 8 v]

/-- A load has ended with a result: it is stored, the Loader is RUNNING, and a LOAD notice is raised, which reaches the
desks whose link is LIVE and whose LOAD mask bit, bit 8, is on at this moment (R171, R180). -/
def loadEnded (r : LoadResult) (s : State) : State :=
  { s with
    loader := ⟨.running, some r⟩
    desks := Vector.ofFn fun d =>
      let c := s.desks[d]
      if c.link = .live ∧ c.mask.getLsbD 8 = true then { c with offered := c.offered ++ [.load r] } else c }

/-- The blocks since a read that started in the given block, by the counter, which wraps (R147, R178). -/
def blocksSince (since : BlockNo) (s : State) : Nat :=
  (s.lanes.block.toNat + 4294967296 - since.toNat) % 4294967296

/-- The Loader in a stage of its load; its stored result stands (R181). -/
def loads (stage : LoadStage) (s : State) : State := { s with loader := { s.loader with stage := stage } }

/-- Message k of the image gave DONE: the next message is read, or the load ends with OK after the last
(R178). -/
def loadGoesOn (k count : Nat) (s : State) : State :=
  if k < count then loads (.message (k + 1) count ⟨[], s.lanes.block⟩) s else loadEnded .ok s

/-- The refusal of an image message that no owner can take from the Loader, if it is one: a wrong argument count,
SET-MASK, LOAD-CONFIG, and every command that needs rights on a line or a talk holder (R13, R116, R179). -/
def imageRefusal (op : Op) (line : Byte) (args : List Byte) (s : State) : Option Result :=
  let upToParty (rest : Line → Result) : Result :=
    match lineOfByte line with
    | none => .noLine
    | some n =>
      if (s.maps.input[primaryRole n]).isNone then .notEquipped
      else if (s.line n).state = .free then .noParty
      else rest n
  if argCountFits op args.length = false then some .badValue
  else
    match op with
    | .setMask => some .notYours
    | .loadConfig => some .starting
    | .takeNext => some .notYours
    | .talkOn => some (upToParty fun _ => .notYours)
    | .talkOff => some (upToParty fun n => if isClearing (s.line n).state then .wrongState else .notYours)
    | op =>
      if op ∈ lineOps then
        (if argsInDomain op args then some (upToParty fun _ => .notYours) else some .badValue)
      else none

end Sys2Proof.Claims
end

