-- ==== Sys2Proof/Certificates/Slice0/Obligations.lean ====
section
/-! DEFINITION. The statements for the provers. Each docstring names the rules of the spec it formalises. -/

open Sys2Proof Sys2Proof.Machine Sys2Proof.Safety Sys2Proof.Claims

/-! ### The step -/

/-- The command at the front of the queue runs on the state with the queue's rest, and an empty queue idles
(log entry 2). -/
def Obligations.StepRunsTheFrontCommand : Prop :=
  ∀ (c : Instr) (rest : List Instr) (s : State),
    step (s.withPending (c :: rest)) = exec c (s.withPending rest) ∧
    step (s.withPending []) = .next (s.withPending [])

/-- No command stops the part, and none touches the commands that wait. -/
def Obligations.EveryCommandCompletes : Prop :=
  ∀ (c : Instr) (s : State), ∃ t : State, exec c s = .next t ∧ t.pending = s.pending

/-- A command taken whole, with nothing waiting for its owner before it, is its arrival, then the link-LIVE event that the
arrival handed the owner if the link was LOST, then its owner's decision when the controller handed the command on. An
owner takes a command only as the first thing that controller has handed it, and otherwise does nothing (log entry 3). -/
def Obligations.WholeCommandIsArrivalThenDecision : Prop :=
  ∀ (op : Op) (d : Desk) (line : Byte) (args : List Byte) (s t u : State), ownerOf op ≠ .controller →
    (firstFor (ownerOf op) (s.desk d).handed ≠ some (.command op line args) →
      exec (commandOf op .decided d line args) s = .next s) ∧
    (firstFor (ownerOf op) (s.desk d).handed = none → exec (commandOf op .arrives d line args) s = .next t →
      let whole := exec (commandOf op .whole d line args) s
      ((ownerOf op, .command op line args) ∉ (t.desk d).handed → whole = .next t) ∧
      ((s.desk d).link = .live ∨ (ownerOf op ≠ .lineTable ∧ ownerOf op ≠ .talkArbiter) →
        whole = exec (commandOf op .decided d line args) t) ∧
      ((s.desk d).link = .lost → (ownerOf op, .command op line args) ∈ (t.desk d).handed →
        (ownerOf op = .lineTable → exec (.linkLiveAtLineTable d) t = .next u →
          whole = exec (commandOf op .decided d line args) u) ∧
        (ownerOf op = .talkArbiter → exec (.linkLiveAtTalkArbiter d) t = .next u →
          whole = exec (commandOf op .decided d line args) u)))

/-! ### Messages at a controller (chapter 9) -/

/-- The controller's checks 2 to 4 in their order, for every command of the catalogue, those it answers itself
included: the first that fails gives a filled reply place and nothing else. A command that passes them and that an
owner decides takes a place and is handed on; what the controller answers itself is stated with NOP, SET-MASK and
LINK-STATUS. The row of a good message by its code byte is the same arrival, log entry 21 (R162, R163, R166, R167). A message that makes its link
LIVE takes the notices offered before off their list, log entry 25. -/
def Obligations.GoodCommandIsCheckedAndHandedOn : Prop :=
  ∀ (op : Op) (d : Desk) (line : Byte) (args : List Byte) (s : State),
    LostIsEmpty (s.desk d) → (s.desk d).replies.length < 16 →
    let failed : Option Result :=
      if argCountFits op args.length = false then some .badValue
      else if s.loader.stage ≠ .running ∧ op ∉ [Op.nop, .readLine, .readStudio, .readMeters, .linkStatus] then
        some .starting
      else if op ∈ [Op.mapInput, .mapOutput, .setPathTiming, .setStemTiming, .setClock, .setTalkTimeout,
          .loadConfig] ∧ (s.desk d).strap = false then
        some .notPermitted
      else none
    (∀ r : Result, failed = some r → exec (commandOf op .arrives d line args) s =
      .next (messageTaken d [.ready ⟨opCode op, line, r, false, []⟩] false [] s)) ∧
    (failed = none → ownerOf op ≠ .controller → exec (commandOf op .arrives d line args) s =
      .next (messageTaken d [.waiting (ownerOf op)] false [(ownerOf op, .command op line args)] s)) ∧
    exec (.unknownCommand d (opCode op) line args) s = exec (commandOf op .arrives d line args) s

/-- NOP is answered DONE by the controller itself, in every state of the Loader and from every desk; with all
16 places taken it is discarded like any other good message (R168). A message that makes its link
LIVE takes the notices offered before off their list, log entry 25. -/
def Obligations.NopIsAnsweredDone : Prop :=
  ∀ (d : Desk) (line : Byte) (s : State), LostIsEmpty (s.desk d) →
    exec (.nop d line []) s = .next
      (if (s.desk d).replies.length < 16 then
        messageTaken d [.ready ⟨0x00, line, .done, false, []⟩] false [] s
      else messageTaken d [] true [] s)

/-- A good message whose code is not in the catalogue is answered UNKNOWN and reaches no other block (R162,
check 1). A message that makes its link
LIVE takes the notices offered before off their list, log entry 25. -/
def Obligations.UnknownCodeIsAnsweredUnknown : Prop :=
  ∀ (d : Desk) (code line : Byte) (args : List Byte) (s : State),
    LostIsEmpty (s.desk d) → (s.desk d).replies.length < 16 → (∀ op ∈ allOps, opCode op ≠ code) →
    exec (.unknownCommand d code line args) s = .next
      (messageTaken d [.ready ⟨code, line, .unknown, false, []⟩] false [] s)

/-- With 16 places taken a good command is discarded unexecuted: no reply, no handing on, the discarded flag
set, and the message counts for liveness (R163). A message that makes its link
LIVE takes the notices offered before off their list, log entry 25. -/
def Obligations.FullReplyQueueDiscardsCommand : Prop :=
  ∀ (d : Desk) (s : State), LostIsEmpty (s.desk d) → (s.desk d).replies.length = 16 →
    exec (.commandDiscarded d) s = .next (messageTaken d [] true [] s) ∧
    (∀ (op : Op) (line : Byte) (args : List Byte),
      exec (commandOf op .arrives d line args) s = .next (messageTaken d [] true [] s)) ∧
    (∀ (code line : Byte) (args : List Byte),
      exec (.unknownCommand d code line args) s = .next (messageTaken d [] true [] s))

/-- SET-MASK replaces the sending desk's mask, or is refused BAD-VALUE when a bit above 10 is set (R171). A message that makes its link
LIVE takes the notices offered before off their list, log entry 25. -/
def Obligations.SetMaskReplacesTheMask : Prop :=
  ∀ (d : Desk) (line hi lo : Byte) (s : State),
    LostIsEmpty (s.desk d) → (s.desk d).replies.length < 16 → s.loader.stage = .running →
    (hi.toNat < 8 →
      let t := messageTaken d [.ready ⟨0x48, line, .done, false, [hi, lo]⟩] false [] s
      exec (.setMask d line [hi, lo]) s =
        .next { t with desks := t.desks.set d { t.desks[d] with mask := hi ++ lo } }) ∧
    (8 ≤ hi.toNat →
      exec (.setMask d line [hi, lo]) s =
        .next (messageTaken d [.ready ⟨0x48, line, .badValue, false, []⟩] false [] s))

/-- LINK-STATUS is answered DONE by the controller itself with 58 bytes, read with the link already LIVE
(R176, R157). A message that makes its link
LIVE takes the notices offered before off their list, log entry 25. -/
def Obligations.LinkStatusIsAnswered : Prop :=
  ∀ (d : Desk) (line : Byte) (s : State), LostIsEmpty (s.desk d) → (s.desk d).replies.length < 16 →
    let u := messageTaken d [] false [] s
    let two (n : Nat) : List Byte := [BitVec.ofNat 8 (n / 256), BitVec.ofNat 8 n]
    let one (e : Desk) : List Byte :=
      ([if (u.desk e).link = .live then 1 else 0, if (u.desk e).strap then 1 else 0] : List Byte) ++
      two (u.desk e).mask.toNat ++
      [BitVec.ofNat 8 (u.desk e).notices.length, BitVec.ofNat 8 (u.desk e).overflow] ++ two (u.desk e).bad ++
      two u.talk.gain[e] ++ [BitVec.ofNat 8 u.talk.timeout[e]]
    let lock (i : Lane) : List Byte := (if u.lanes.judged[i] then (1 : Byte) else 0) :: two u.lanes.unlocked[i]
    let load : List Byte :=
      match u.loader.result with
      | none => [255, 0, 0, 0]
      | some .ok => [0, 0, 0, 0]
      | some .absent => [1, 0, 0, 0]
      | some .badHeader => [2, 0, 0, 0]
      | some (.stopped k reason) => [3] ++ two k ++ [reason]
    let data : List Byte :=
      two (u.lanes.block.toNat / 65536) ++ two u.lanes.block.toNat ++
      [if u.loader.stage = .running then (1 : Byte) else 0] ++ load ++ one 0 ++ one 1 ++ one 2 ++
      [if u.lanes.clock = .referenced then (1 : Byte) else 0, BitVec.ofNat 8 u.lanes.refLane.val,
        match u.lanes.pendingRef with
        | none => 255
        | some r => BitVec.ofNat 8 r.val,
        BitVec.ofNat 8 u.lanes.relock] ++ lock 0 ++ lock 1 ++ lock 2 ++ lock 3
    data.length = 58 ∧
    exec (.linkStatus d line []) s = .next
      (messageTaken d [.ready ⟨0x43, line, .done, false, data⟩] false [] s)

/-- The assembler reads back every message a desk can send: from HUNT, the bytes of a full message of any code,
line and 0 to 58 argument bytes give that code, line and arguments, the bytes of every compact message give the
full command it stands for, and both leave it in HUNT. The codes, the least and the greatest argument count of every command
of the catalogue, and the commands of the compact codes 0 to 7, are those of the table (R159, R162, section 9.5). -/
def Obligations.EveryMessageIsReadBack : Prop :=
  ∀ (code line : Byte) (args : List Byte) (k : Fin 8) (n : Line), args.length ≤ 58 →
    feedBytes .hunt (encodeFull code line args) = (.hunt, .good code line args) ∧
    feedBytes .hunt (encodeCompact k n) =
      (.hunt, .good (opCode (opOfCompact k)) (if k = 7 then 0 else BitVec.ofNat 8 (n.val + 1)) []) ∧
    (let catalogue : List (Op × Byte × Nat × Nat) :=
      [(.nop, 0x00, 0, 0), (.answer, 0x10, 0, 0), (.hold, 0x11, 0, 0), (.queue, 0x12, 1, 1), (.recall, 0x13, 0, 0),
       (.promote, 0x14, 0, 0), (.give, 0x15, 1, 1), (.take, 0x16, 0, 0), (.takeNext, 0x17, 0, 0),
       (.privateTalk, 0x18, 0, 0), (.park, 0x19, 0, 0), (.drop, 0x1A, 0, 0), (.talkOn, 0x1B, 0, 0),
       (.talkOff, 0x1C, 0, 0), (.setLevel, 0x20, 2, 2), (.setReturn, 0x21, 2, 2), (.setLabel, 0x22, 0, 58),
       (.setHome, 0x23, 1, 1), (.forcePath, 0x24, 1, 1), (.setConf, 0x30, 3, 3), (.setCtxGain, 0x31, 4, 4),
       (.setDuck, 0x32, 2, 2), (.setTalkGain, 0x33, 3, 3), (.readLine, 0x40, 0, 0), (.readStudio, 0x41, 1, 1),
       (.readMeters, 0x42, 0, 0), (.linkStatus, 0x43, 0, 0), (.setMask, 0x48, 2, 2), (.mapInput, 0x50, 3, 3),
       (.mapOutput, 0x51, 5, 5), (.setPathTiming, 0x52, 4, 4), (.setStemTiming, 0x53, 4, 4), (.setClock, 0x54, 1, 1),
       (.setTalkTimeout, 0x55, 2, 2), (.loadConfig, 0x56, 0, 0)]
     catalogue.map (fun row => row.1) = allOps ∧ (∀ op : Op, op ∈ allOps) ∧
     ∀ row ∈ catalogue, opCode row.1 = row.2.1 ∧
       ∀ count : Nat, argCountFits row.1 count = true ↔ row.2.2.1 ≤ count ∧ count ≤ row.2.2.2) ∧
    (List.range 8).map opOfCompact =
      [.take, .park, .drop, .talkOn, .talkOff, .answer, .privateTalk, .takeNext]

/-- A received byte by the assembler's state: in HUNT it starts a message or is discarded; inside a message it is
collected with the gap count back at 0; the byte that ends a message has it judged, and a good message is then
the good message of its code, taken as the row of a message event (R159, R160, log entry 21). -/
def Obligations.ReceivedByteIsAssembled : Prop :=
  ∀ (d : Desk) (b : Byte) (s : State), (s.desk d).gap < 21 → assemblerLegal (s.desk d).assembler = true →
    let c := s.desk d
    let holding (a : Assembler) : State := { s with desks := s.desks.set d { c with assembler := a, gap := 0 } }
    exec (.byteReceived d b) s =
      match c.assembler with
      | .hunt => .next (holding (if b = 0xC3 then .compact [] else if b = 0xA5 then .full [] else .hunt))
      | .compact [] => .next (holding (.compact [b]))
      | .compact (b2 :: _) =>
        if b2.getLsbD 4 = false ∧ b = ~~~b2 then
          let k := b2.extractLsb' 5 3
          exec (.unknownCommand d (opCode (opOfCompact k.toNat))
            (if k = 7 then 0 else BitVec.ofNat 8 ((b2.extractLsb' 0 4).toNat + 1)) []) s
        else .next (messageLost d s)
      | .full [] => .next (if 2 ≤ b.toNat ∧ b.toNat ≤ 60 then holding (.full [b]) else messageLost d s)
      | .full (len :: got) =>
        if got.length < len.toNat then .next (holding (.full (len :: got ++ [b])))
        else if (len :: got ++ [b]).sum = 0 then
          exec (.unknownCommand d (got.getD 0 0) (got.getD 1 0) (got.drop 2)) s
        else .next (messageLost d s)

/-- A bad message is discarded whole and counted, with no reply and no effect on liveness; a message whose gap
count reached 21 is bad, and before that nothing happens. A LIVE link whose liveness count stands at 2000 goes LOST, and
any other link stands (R160, R161, R166, R167). The gap count, which is not kept in HUNT, is 0 after the message is lost:
the model's choice, log entry 15. -/
def Obligations.BadMessageIsCountedAndLinkGoesLost : Prop :=
  ∀ (d : Desk) (s : State),
    exec (.badMessage d) s = .next (messageLost d s) ∧
    ((s.desk d).assembler ≠ .hunt → 21 ≤ (s.desk d).gap →
      exec (.messageGapTimeout d) s = .next (messageLost d s)) ∧
    ((s.desk d).assembler = .hunt ∨ (s.desk d).gap < 21 → exec (.messageGapTimeout d) s = .next s) ∧
    ((s.desk d).link = .live → 2000 ≤ (s.desk d).liveness → exec (.linkLost d) s = .next (linkGone d s)) ∧
    ((s.desk d).link = .lost ∨ (s.desk d).liveness < 2000 → exec (.linkLost d) s = .next s)

/-- A controller's block end: the liveness count of a LIVE link and the gap count of a message in assembly rise
by 1; a gap count of 21 ends the message as bad and a liveness count of 2000 makes the link LOST, as LINK-LOST
alone does (R160, R166, R167). The count of a LOST link stands, log entry 16; the gap count of R160, which is not kept in
HUNT, stands there and is 0 after a message is lost: the model's choice, log entry 15. -/
def Obligations.BlockEndOfALink : Prop :=
  ∀ (d : Desk) (s : State), (s.desk d).gap ≤ 20 → ((s.desk d).link = .live → (s.desk d).liveness ≤ 1999) →
    let c := s.desk d
    let counted : State := { s with desks := s.desks.set d { c with
      liveness := if c.link = .live then c.liveness + 1 else c.liveness
      gap := if c.assembler = .hunt then c.gap else c.gap + 1 } }
    let heardOut := if c.assembler ≠ .hunt ∧ c.gap = 20 then messageLost d counted else counted
    exec (.livenessBlockEnd d) s =
      .next (if c.link = .live ∧ c.liveness = 1999 then linkGone d heardOut else heardOut)

/-- The Line Table's fallback flag follows the link events of desk 2 and of no other desk (R10). -/
def Obligations.FallbackFlagFollowsDesk2 : Prop :=
  ∀ (d : Desk) (s : State),
    exec (.linkLiveAtLineTable d) s = .next { s with
      lines := { s.lines with fallback := if d = 2 then false else s.lines.fallback }
      desks := s.desks.set d { s.desks[d] with handed := s.desks[d].handed.erase (.lineTable, .live) } } ∧
    exec (.linkLostAtLineTable d) s = .next { s with
      lines := { s.lines with fallback := if d = 2 then true else s.lines.fallback }
      desks := s.desks.set d { s.desks[d] with handed := s.desks[d].handed.erase (.lineTable, .lost) } }

/-- The idle transmitter starts the filled head reply first, marked from the discarded flag, which is cleared;
otherwise the oldest notice, with its kind, its stamp and the data bytes of its kind; it starts nothing while it sends;
and the bytes after the lead of whatever it sends sum to 0 (R163, R164, R165, R169, R170). -/
def Obligations.TransmitterStartsReplyThenNotice : Prop :=
  ∀ (d : Desk) (s : State) (lead : Byte) (body : List Byte), let c := s.desk d
    let with_ (c : Controller) : State := { s with desks := s.desks.set d c }
    exec (.sendReply d) s = .next
      (match c.tx, c.replies with
       | .idle, .ready r :: rest =>
         with_ { c with
           tx := .sending (sent 0x5A ([r.code, r.line, BitVec.ofNat 8 (resultNumber r.result +
             (if c.discarded then 64 else 0) + (if r.clamped then 128 else 0))] ++ r.data))
           replies := rest
           discarded := false }
       | _, _ => s) ∧
    exec (.sendNotice d) s = .next
      (match c.tx, c.replies, c.notices with
       | .idle, .ready _ :: _, _ => s
       | .idle, _, n :: rest =>
         with_ { c with
           tx := .sending (sent 0x5C ([BitVec.ofNat 8 (kindNumber n.notice), n.stamp.extractLsb' 24 8,
             n.stamp.extractLsb' 16 8, n.stamp.extractLsb' 8 8, n.stamp.extractLsb' 0 8] ++ noticeSays n.notice))
           notices := rest }
       | _, _, _ => s) ∧
    exec (.messageSent d) s = .next (with_ { c with tx := .idle }) ∧
    ((sent lead body).drop 1).sum = 0

/-- The five steps by which a controller takes an offered notice, by its link state and mask as they stand then (R172;
for a notice raised before the mask changed, the model's choice, log entry 26). -/
def Obligations.OfferedNoticeIsFiltered : Prop :=
  ∀ (d : Desk) (n : Notice) (rest : List Notice) (s : State), (s.desk d).offered = n :: rest →
    let c := s.desk d
    let gone : Controller := { c with offered := rest }
    let stamped (m : Notice) : Stamped := ⟨s.lanes.block, m⟩
    let after : Controller :=
      if c.link = .lost then gone
      else if c.mask.getLsbD (kindNumber n) = false then gone
      else if 32 ≤ c.notices.length then
        { gone with overflow := if c.overflow < 255 then c.overflow + 1 else c.overflow }
      else if 0 < c.overflow ∧ c.mask.getLsbD 10 = true then
        (if c.notices.length = 31 then
          { gone with notices := c.notices ++ [stamped (.lostNotices c.overflow)], overflow := 1 }
        else
          { gone with notices := c.notices ++ [stamped (.lostNotices c.overflow), stamped n], overflow := 0 })
      else { gone with notices := c.notices ++ [stamped n] }
    exec (.noticeOffer d) s = .next { s with desks := s.desks.set d after }

/-! ### Party events, fades and clearing (chapters 1 and 3) -/

/-- Party present makes a FREE line WAITING with its settings kept, and is ignored in every other state (R18). -/
def Obligations.PartyPresentMakesFreeLineWaiting : Prop :=
  ∀ (n : Line) (s : State),
    let u : State := { s with wires := { s.wires with parties := s.wires.parties.erase (.present n) } }
    exec (.partyPresent n) s = .next
      (if (s.line n).state = .free then
        lineStep (put n { s.line n with state := .waiting } s.lines.queues s.lines) u
      else u)

/-- Party gone and the clearing timeout free a line at once: membership, reservation, queue entry and label go, home
studio and levels stay; a FREE line and a clearing count below 2000 stand. The map-changed event frees in one step every
line that is not FREE, whose primary role it names and who has none in the map in effect; an event that is not the oldest
handed to the Line Table changes nothing; where several lines are freed, their reports come in ascending line order, the
model's choice, log entry 27. At a block end the clearing count of every CLEARING line rises by 1 up to 2000, and nothing
else changes (R3, R17, R19, R21, R153; the count and the timeout as rows of their own, log entry 6; the event as a row of
its own, log entry 24). -/
def Obligations.LineIsFreedAtOnce : Prop :=
  ∀ (n : Line) (roles : List (Fin 44)) (s : State),
    let u : State := { s with wires := { s.wires with parties := s.wires.parties.erase (.gone n) } }
    let freed := put n { s.line n with state := .free, label := [] } (without n s.lines.queues) s.lines
    exec (.partyGone n) s = .next (if (s.line n).state = .free then u else lineStep freed u) ∧
    exec (.primaryRoleLoss roles) s = .next
      (if s.wires.mapChanges.head? = some roles then
        let lost (k : Line) : Bool := decide (primaryRole k ∈ roles ∧ s.maps.input[primaryRole k] = none ∧
          s.lines.recs[k].state ≠ .free)
        lineStep { s.lines with
          recs := Vector.ofFn fun k =>
            if lost k then { s.lines.recs[k] with state := .free, label := [] } else s.lines.recs[k]
          queues := ⟨s.lines.queues.a.filter (fun e => !lost e.line),
            s.lines.queues.b.filter (fun e => !lost e.line)⟩ }
          { s with wires := { s.wires with mapChanges := s.wires.mapChanges.tail } }
      else s) ∧
    exec (.clearingTimeout n) s = .next
      (match (s.line n).state with
       | .clearing c => if 2000 ≤ c then lineStep freed s else s
       | _ => s) ∧
    exec .clearingCountTick s = .next { s with lines := { s.lines with recs := Vector.ofFn fun k =>
      match s.lines.recs[k].state with
      | .clearing c => { s.lines.recs[k] with state := .clearing (if c < 2000 then c + 1 else c) }
      | _ => s.lines.recs[k] } }

/-- A fade completion with the line's tag, taken on a leaving line, puts it into its destination: its arriving
entry is confirmed in place, its reservation becomes membership, CLEARING starts at count 0; any other completion
is ignored (R65). -/
def Obligations.FadeCompletionEntersDestination : Prop :=
  ∀ (n : Line) (tag : LeaveTag) (s : State),
    let u : State := { s with wires := { s.wires with fades := s.wires.fades.erase (n, tag) } }
    let becomes (st : LineState) (q : PerStudio (List Entry)) : State :=
      lineStep (put n { s.line n with state := st } q s.lines) u
    exec (.fadeComplete n tag) s = .next
      (if (s.line n).tag ≠ tag then u
      else
        match destOf (s.line n).state with
        | none => u
        | some .hold => becomes .hold s.lines.queues
        | some (.queued x) =>
          becomes (.queued x) (onQueue x (fun q => q.map (fun e => if e.line = n then ⟨n, false⟩ else e))
            s.lines.queues)
        | some (.air x) => becomes (.air x .steady) s.lines.queues
        | some (.priv x) => becomes (.priv x .steady) s.lines.queues
        | some .clearing => becomes (.clearing 0) (without n s.lines.queues))

/-! ### The check order of line commands (chapters 1 and 2) -/

/-- The arguments and steps 1 to 7 of the check order: the first check that fails gives the result, and nothing but
the reply changes. FORCE-PATH's further condition of step 6 is stated with FORCE-PATH (R8, R12 to R15, R25, R28, R32,
R51, R54; a studio desk's SET-HOME on a CLEARING line, log entry 8). -/
def Obligations.LineCommandRefusalsInOrder : Prop :=
  ∀ (op : Op) (d : Desk) (line : Byte) (args : List Byte) (s : State) (r : Result),
    op ∈ lineOps → Waits s d op line args → argCountFits op args.length = true →
    firstRefusal op d line args s = some r →
    exec (commandOf op .decided d line args) s = .next (refusedWith d op line r s)

/-- TAKE-NEXT: refused WRONG-STATE from the screen desk and EMPTY on an empty queue; otherwise the head line gives
the result a TAKE of it would give: NOT-EQUIPPED, BUSY while arriving, FULL, or the line to air with its number
(R13, R58). -/
def Obligations.TakeNextTakesTheHead : Prop :=
  ∀ (d : Desk) (line : Byte) (s : State), Waits s d .takeNext line [] → QueueLaw s.lines → DestLaw s.lines →
    let x : Studio := if d = 0 then .a else .b
    exec (.takeNext .decided d line []) s = .next
      (if d = 2 then refusedWith d .takeNext line .wrongState s
      else
        match queueOf s.lines x with
        | [] => refusedWith d .takeNext line .empty s
        | e :: rest =>
          if equipped s e.line = false then refusedWith d .takeNext line .notEquipped s
          else if e.arriving = true then refusedWith d .takeNext line .busy s
          else if 6 ≤ occupied s.lines (.air x) then refusedWith d .takeNext line .full s
          else
            answered d .takeNext line .done false [BitVec.ofNat 8 (e.line.val + 1)]
              (lineStep (put e.line { s.line e.line with state := .air x .steady }
                (onQueue x (fun _ => rest) s.lines.queues) s.lines) s))

/-! ### What a taken line command does (chapters 1 to 3) -/

/-- ANSWER makes a WAITING or HOLD line a steady SCREEN member, and RECALL a QUEUED line, whose entry leaves its
queue; HOLD makes a WAITING line HOLD at once, and starts a steady SCREEN line's leave toward HOLD; home studio, levels
and label stay (R33, R34, R35, R39). -/
def Obligations.AnswerRecallAndHoldAtTheScreen : Prop :=
  ∀ (d : Desk) (line : Byte) (n : Line) (s : State),
    let r := s.line n
    let joined : LineRec := { r with state := .screen .steady }
    let held : LineRec := if r.state = .waiting then { r with state := .hold } else leaving r .hold
    (Accepted s d .answer line [] n →
      exec (.answer .decided d line []) s = .next (lineDone d .answer line [] n joined s.lines.queues s)) ∧
    (Accepted s d .recall line [] n →
      exec (.recall .decided d line []) s =
        .next (lineDone d .recall line [] n joined (without n s.lines.queues) s)) ∧
    (Accepted s d .hold line [] n →
      exec (.hold .decided d line []) s = .next (lineDone d .hold line [] n held s.lines.queues s))

/-- QUEUE puts a line at the tail of the named queue: a WAITING or HOLD line becomes QUEUED there; a steady SCREEN
line starts its leave and has an arriving entry; a QUEUED line's entry leaves its place first, in its own queue or
the other. GIVE does the same to a QUEUED line for a studio desk. The reply carries the new position. PROMOTE moves
a QUEUED line's entry to position 1, with the others in their order and 1 in the reply (R28, R36, R37, R38, R40,
R41). -/
def Obligations.QueueGiveAndPromoteOrderTheQueues : Prop :=
  ∀ (d : Desk) (line b : Byte) (n : Line) (y : Studio) (s : State), QueueLaw s.lines →
    let x := namedStudio [b]
    let r := s.line n
    let ahead (q : PerStudio (List Entry)) : List Byte := [BitVec.ofNat 8 ((q.get x).length + 1)]
    let rest := without n s.lines.queues
    let moved (op : Op) : State :=
      lineDone d op line (ahead rest) n { r with state := .queued x } (atTail x ⟨n, false⟩ rest) s
    (Accepted s d .queue line [b] n →
      exec (.queue .decided d line [b]) s = .next
        (match r.state with
         | .screen _ =>
           lineDone d .queue line (ahead s.lines.queues) n (leaving r (.queued x))
             (atTail x ⟨n, true⟩ s.lines.queues) s
         | .queued _ => moved .queue
         | _ =>
           lineDone d .queue line (ahead s.lines.queues) n { r with state := .queued x }
             (atTail x ⟨n, false⟩ s.lines.queues) s)) ∧
    (Accepted s d .give line [b] n → exec (.give .decided d line [b]) s = .next (moved .give)) ∧
    (Accepted s d .promote line [] n → r.state = .queued y →
      exec (.promote .decided d line []) s = .next (lineDone d .promote line [1] n r
        (onQueue y (fun q => ⟨n, false⟩ :: q.filter (fun e => e.line != n)) s.lines.queues) s))

/-- TAKE: a QUEUED line joins AIR at once and its entry leaves its queue; a HOLD line joins AIR at once; a steady
PRIVATE line starts its leave toward AIR; a leaving AIR line is steady again, with its tag kept. The reply carries
the line's number (R55, R56, R57, R66). -/
def Obligations.TakeBringsToAir : Prop :=
  ∀ (d : Desk) (line : Byte) (n : Line) (s : State), Accepted s d .take line [] n →
    let x : Studio := if d = 0 then .a else .b
    let r := s.line n
    let done (r' : LineRec) (q : PerStudio (List Entry)) : Host.Outcome State Fault Refusal :=
      .next (lineDone d .take line [BitVec.ofNat 8 (n.val + 1)] n r' q s)
    exec (.take .decided d line []) s =
      match r.state with
      | .queued _ => done { r with state := .air x .steady } (without n s.lines.queues)
      | .priv _ _ => done (leaving r (.air x)) s.lines.queues
      | .air _ _ => done { r with state := .air x .steady } (without n s.lines.queues)
      | _ => done { r with state := .air x .steady } s.lines.queues

/-- PRIVATE: a QUEUED line joins PRIV at once and its entry leaves its queue; a HOLD line joins PRIV at once; a
steady AIR line starts its leave toward PRIVATE. PARK starts a leave toward HOLD and sets the home studio (R59, R60,
R61). -/
def Obligations.PrivateAndParkMoveTheLine : Prop :=
  ∀ (d : Desk) (line : Byte) (n : Line) (s : State),
    let x : Studio := if d = 0 then .a else .b
    let r := s.line n
    (Accepted s d .privateTalk line [] n →
      exec (.privateTalk .decided d line []) s = .next
        (match r.state with
         | .queued _ =>
           lineDone d .privateTalk line [] n { r with state := .priv x .steady } (without n s.lines.queues) s
         | .air _ _ => lineDone d .privateTalk line [] n (leaving r (.priv x)) s.lines.queues s
         | _ => lineDone d .privateTalk line [] n { r with state := .priv x .steady } s.lines.queues s)) ∧
    (Accepted s d .park line [] n →
      exec (.park .decided d line []) s =
        .next (lineDone d .park line [] n { leaving r .hold with home := x } s.lines.queues s))

/-- DROP: a line in no group enters CLEARING at count 0 and its entry leaves its queue; a steady member starts its
leave toward CLEARING; a leaving member's destination becomes CLEARING, its entry leaves its queue, and its tag stays
(R20, R42, R43, R62, R67). -/
def Obligations.DropSendsToClearing : Prop :=
  ∀ (d : Desk) (line : Byte) (n : Line) (s : State), Accepted s d .drop line [] n →
    let r := s.line n
    let gone := without n s.lines.queues
    exec (.drop .decided d line []) s = .next
      (match phaseOf r.state with
       | none => lineDone d .drop line [] n { r with state := .clearing 0 } gone s
       | some .steady => lineDone d .drop line [] n (leaving r .clearing) s.lines.queues s
       | some (.leaving _) =>
         lineDone d .drop line [] n { leaving r .clearing with tag := r.tag } gone s)

/-- SET-LEVEL and SET-RETURN store the carried gain, clamped to 32767 with the clamped flag, and answer the stored
value; SET-LABEL stores the first 24 characters and answers their number; SET-HOME sets the home studio (R22, R23,
R24, R25). -/
def Obligations.LineSettingsAreStored : Prop :=
  ∀ (d : Desk) (line hi lo b : Byte) (text : List Byte) (n : Line) (s : State),
    let r := s.line n
    let carried := hi.toNat * 256 + lo.toNat
    let v := min carried 32767
    let two : List Byte := [BitVec.ofNat 8 (v / 256), BitVec.ofNat 8 v]
    let stored (op : Op) (clamped : Bool) (data : List Byte) (r' : LineRec) : Host.Outcome State Fault Refusal :=
      .next (answered d op line .done clamped data (lineStep (put n r' s.lines.queues s.lines) s))
    (Accepted s d .setLevel line [hi, lo] n →
      exec (.setLevel .decided d line [hi, lo]) s =
        stored .setLevel (decide (32767 < carried)) two { r with level := v }) ∧
    (Accepted s d .setReturn line [hi, lo] n →
      exec (.setReturn .decided d line [hi, lo]) s =
        stored .setReturn (decide (32767 < carried)) two { r with ret := v }) ∧
    (Accepted s d .setLabel line text n →
      exec (.setLabel .decided d line text) s =
        stored .setLabel (decide (24 < text.length)) [BitVec.ofNat 8 (min text.length 24)]
          { r with label := text.take 24 }) ∧
    (Accepted s d .setHome line [b] n →
      exec (.setHome .decided d line [b]) s = stored .setHome false [] { r with home := namedStudio [b] })

/-- READ-LINE is answered in every state of the line with its record, talk holder and path values in the order of
R26, and changes nothing; a line byte outside 1 to 16 is refused NO-LINE (R26, R169). -/
def Obligations.ReadLineShowsTheLine : Prop :=
  ∀ (d : Desk) (line : Byte) (n : Line) (s : State), Waits s d .readLine line [] →
    let r := s.line n
    let two (v : Nat) : List Byte := [BitVec.ofNat 8 (v / 256), BitVec.ofNat 8 v]
    let one (v : Nat) : List Byte := [BitVec.ofNat 8 v]
    let position (x : Studio) : Nat := ((s.lines.queues.get x).findIdx? (fun e => e.line == n)).elim 0 (· + 1)
    let place : Nat := match r.state with
      | .queued x => position x
      | .screen (.leaving (.queued x)) => position x
      | _ => 0
    let clearing : List Nat := match r.state with
      | .clearing c => [c / 256, c]
      | _ => [255, 255]
    let state : List Nat := stateNumbers r.state ++ [place] ++ clearing
    let data : List Byte :=
      state.map (fun v => BitVec.ofNat 8 v) ++ one (studioNumber r.home) ++
      one (if (s.maps.input[primaryRole n]).isSome then 1 else 0) ++ two r.level ++ two r.ret ++
      one ((holder s n).elim 255 (fun e => e.val)) ++ one (if (s.paths[n]).active = .primary then 0 else 1) ++
      one (if (s.paths[n]).fault then 1 else 0) ++ one r.label.length ++ r.label
    (lineOfByte line = some n →
      exec (.readLine .decided d line []) s = .next (answered d .readLine line .done false data s)) ∧
    (lineOfByte line = none →
      exec (.readLine .decided d line []) s = .next (refusedWith d .readLine line .noLine s))


/-! ### Path settings and talk (chapters 6 and 7) -/

/-- A taken FORCE-PATH hands its mode to the Path Monitor, which holds it as the pending mode unless it is the mode in
force with none pending; ALTERNATE on a line whose alternate role is UNASSIGNED is refused WRONG-STATE. SET-PATH-TIMING
replaces the three values of one line, or of all for line byte 0, each clamped into its range (R144, R145). -/
def Obligations.PathSettingsAreStored : Prop :=
  ∀ (d : Desk) (line b fail hi lo auto : Byte) (n : Line) (s : State),
    let m : PathMode := if b = 0 then .auto else if b = 1 then .primary else .alternate
    let p := s.paths[n]
    let p' : PathLine := if p.mode = m ∧ p.pending = none then p else { p with pending := some m }
    let f := max 1 (min 64 fail.toNat)
    let r := max 1 (min 60000 (carriedWord hi lo))
    (Accepted s d .forcePath line [b] n →
      exec (.forcePath .decided d line [b]) s = .next
        (if m = .alternate ∧ s.maps.input[alternateRole n] = none then refusedWith d .forcePath line .wrongState s
        else answered d .forcePath line .done false [b] { s with paths := s.paths.set n p' })) ∧
    (Waits s d .setPathTiming line [fail, hi, lo, auto] →
      exec (.setPathTiming .decided d line [fail, hi, lo, auto]) s = .next
        (if 1 < auto.toNat then refusedWith d .setPathTiming line .badValue s
        else if 16 < line.toNat then refusedWith d .setPathTiming line .noLine s
        else answered d .setPathTiming line .done (decide (f ≠ fail.toNat ∨ r ≠ carriedWord hi lo))
          ([BitVec.ofNat 8 f] ++ asTwo r ++ [auto]) { s with paths := Vector.ofFn fun k =>
            if line.toNat = 0 ∨ line.toNat = k.val + 1 then
              { s.paths[k] with failThr := f, revertThr := r, autoRevert := decide (auto = 1) }
            else s.paths[k] }))

/-- TALK-ON through its seven checks: a free line is granted, the holder's own hold starts afresh with no notice, the
studio desk preempts desk 2 on a line of its studio, and any other holder gives BUSY. TALK-OFF through its five: the
holder's hold is released with a notice, another desk's hold stands, and with no holder a desk with talk rights is
answered DONE and another NOT-YOURS. A refused one changes nothing but the reply (R117, R118, R119, R125). -/
def Obligations.TalkIsClaimedAndReleased : Prop :=
  ∀ (d : Desk) (line : Byte) (s : State),
    (Waits s d .talkOn line [] →
      exec (.talkOn .decided d line []) s = .next
        (match lineOfByte line with
         | none => refusedWith d .talkOn line .noLine s
         | some n =>
           let st := (s.line n).state
           let given (news : List Notice) : State := answered d .talkOn line .done false [BitVec.ofNat 8 d.val]
             (noticed news (withHold n (some ⟨d, s.lanes.block⟩) s))
           if equipped s n = false then refusedWith d .talkOn line .notEquipped s
           else if st = .free then refusedWith d .talkOn line .noParty s
           else if mayTalk s d n = false ∧ ¬(isClearing st = true ∧ s.talk.view[d] = .live) then
             refusedWith d .talkOn line .notYours s
           else if (destOf st).isSome = true then refusedWith d .talkOn line .busy s
           else if isClearing st = true then refusedWith d .talkOn line .wrongState s
           else
             match holder s n with
             | none => given [.talk n (some d) none .granted]
             | some h =>
               if h = d then given []
               else if h = 2 ∧ (studioOf st).map deskOf = some d then given [.talk n (some d) (some h) .preempted]
               else refusedWith d .talkOn line .busy s)) ∧
    (Waits s d .talkOff line [] →
      exec (.talkOff .decided d line []) s = .next
        (match lineOfByte line with
         | none => refusedWith d .talkOff line .noLine s
         | some n =>
           let st := (s.line n).state
           if equipped s n = false then refusedWith d .talkOff line .notEquipped s
           else if st = .free then refusedWith d .talkOff line .noParty s
           else if isClearing st = true then refusedWith d .talkOff line .wrongState s
           else if holder s n = some d then
             answered d .talkOff line .done false []
               (noticed [.talk n none (some d) .talkOff] (withHold n none s))
           else if holder s n = none ∧ mayTalk s d n = true then answered d .talkOff line .done false [] s
           else refusedWith d .talkOff line .notYours s))

/-- A link-LOST event at the Talk Arbiter releases every hold of that desk; a link-LIVE event sets the view, and desk
2's also releases the studio desks' holds that rest on fallback alone. The notices come in ascending line order (R122,
R123). -/
def Obligations.LinkEventsReleaseTalk : Prop :=
  ∀ (d : Desk) (s : State),
    let seen (v : LinkState) (h : Handed) : State := { s with
      talk := { s.talk with view := s.talk.view.set d v }
      desks := s.desks.set d { s.desks[d] with handed := s.desks[d].handed.erase (.talkArbiter, h) } }
    let live := seen .live .live
    exec (.linkLostAtTalkArbiter d) s =
      .next (releases (fun n => holder s n == some d) .linkLost (seen .lost .lost)) ∧
    exec (.linkLiveAtTalkArbiter d) s = .next
      (if d = 2 then
        releases (fun n => (holder s n).any (fun e =>
          e != 2 && !(live.talk.view[e] == .live && rightsOf false e (s.line n)))) .fallbackEnd live
      else live)

/-- A state-changed report releases the line's hold when its holder has no talk rights or the line is FREE or CLEARING;
the block-end test releases every hold whose elapsed count, taken modulo 2 to the power 32, has reached its desk's
timeout, and none while the timeout is 0 (R121, R124). A report that follows a DROP retarget is no exception: a studio
desk's hold on a SCREEN line that rested on the destination QUEUED is released, the model's choice, log entry 29. -/
def Obligations.ReportsAndTimeoutsReleaseTalk : Prop :=
  ∀ (n : Line) (s : State),
    let u : State := { s with wires := { s.wires with reports := s.wires.reports.erase n } }
    exec (.stateChangedReport n) s = .next
      (match holder s n with
       | none => u
       | some h =>
         if mayTalk s h n = true ∧ (s.line n).state ≠ .free ∧ isClearing (s.line n).state = false then u
         else noticed [.talk n none (some h) .state] (withHold n none u)) ∧
    exec .talkTimeout s = .next (releases (fun k =>
      match s.talk.holds[k] with
      | none => false
      | some h =>
        let seconds := s.talk.timeout[h.holder]
        decide (1 ≤ seconds ∧
          seconds * 1000 ≤ (s.lanes.block.toNat + 4294967296 - h.start.toNat) % 4294967296)) .timeout s)

/-- SET-TALK-GAIN stores a desk's gain, clamped to 32767, for the desk itself or an ENG desk; SET-TALK-TIMEOUT stores a
desk's seconds (R126, R127). -/
def Obligations.TalkSettingsAreStored : Prop :=
  ∀ (d : Desk) (line e hi lo : Byte) (s : State),
    let v := min (carriedWord hi lo) 32767
    (Waits s d .setTalkGain line [e, hi, lo] →
      exec (.setTalkGain .decided d line [e, hi, lo]) s = .next
        (if 2 < e.toNat then refusedWith d .setTalkGain line .badValue s
        else if d.val ≠ e.toNat ∧ (s.desk d).strap = false then refusedWith d .setTalkGain line .notYours s
        else answered d .setTalkGain line .done (decide (32767 < carriedWord hi lo)) (asTwo v)
          { s with talk := { s.talk with gain := Vector.ofFn fun k =>
            if k.val = e.toNat then v else s.talk.gain[k] } })) ∧
    (Waits s d .setTalkTimeout line [e, lo] →
      exec (.setTalkTimeout .decided d line [e, lo]) s = .next
        (if 2 < e.toNat then refusedWith d .setTalkTimeout line .badValue s
        else answered d .setTalkTimeout line .done false [lo]
          { s with talk := { s.talk with timeout := Vector.ofFn fun k =>
            if k.val = e.toNat then lo.toNat else s.talk.timeout[k] } }))

/-! ### Contexts and base feeds (chapter 5) -/

/-- SET-CONF and SET-CTX-GAIN: BAD-VALUE for an argument outside its values or an illegal pairing of selector and
context, then NOT-YOURS for a desk that may not set the context, then the named setting takes the value, a gain clamped
to 32767 (R109, R110, R112). -/
def Obligations.ConferenceAndGainAreStored : Prop :=
  ∀ (d : Desk) (line c sel sw hi lo : Byte) (s : State),
    let v := min (carriedWord hi lo) 32767
    let on := decide (sw = 1)
    (Waits s d .setConf line [c, sel, sw] →
      exec (.setConf .decided d line [c, sel, sw]) s = .next
        (if 2 < c.toNat ∨ 1 < sw.toNat ∨ ¬(if c = 2 then sel = 2 else sel.toNat ≤ 1) then
          refusedWith d .setConf line .badValue s
        else if setsContext s d c = false then refusedWith d .setConf line .notYours s
        else answered d .setConf line .done false [sw]
          (withContext c (fun x => if sel = 0 then { x with airConf := on } else { x with privConf := on })
            (fun x => { x with conf := on }) s))) ∧
    (Waits s d .setCtxGain line [c, sel, hi, lo] →
      exec (.setCtxGain .decided d line [c, sel, hi, lo]) s = .next
        (if 2 < c.toNat ∨ ¬(if c = 2 then sel = 3 else sel.toNat ≤ 2) then
          refusedWith d .setCtxGain line .badValue s
        else if setsContext s d c = false then refusedWith d .setCtxGain line .notYours s
        else answered d .setCtxGain line .done (decide (32767 < carriedWord hi lo)) (asTwo v)
          (withContext c
            (fun x =>
              if sel = 0 then { x with stemGain := v }
              else if sel = 1 then { x with holdGain := v }
              else { x with privGain := v })
            (fun x => { x with gain := v }) s)))

/-- SET-DUCK stores the depth, clamped to 4; SET-STEM-TIMING stores a studio's two thresholds, each clamped into its
range, and refuses a Screen context BAD-VALUE; both check the context before the sender (R109, R111, R128). -/
def Obligations.DuckAndStemTimingAreStored : Prop :=
  ∀ (d : Desk) (line c b hi lo : Byte) (s : State),
    let depth := min b.toNat 4
    let f := max 1 (min 64 b.toNat)
    let r := max 1 (min 60000 (carriedWord hi lo))
    (Waits s d .setDuck line [c, b] →
      exec (.setDuck .decided d line [c, b]) s = .next
        (if 2 < c.toNat then refusedWith d .setDuck line .badValue s
        else if setsContext s d c = false then refusedWith d .setDuck line .notYours s
        else answered d .setDuck line .done (decide (4 < b.toNat)) [BitVec.ofNat 8 depth]
          (withContext c (fun x => { x with duck := depth }) (fun x => { x with duck := depth }) s))) ∧
    (Waits s d .setStemTiming line [c, b, hi, lo] →
      exec (.setStemTiming .decided d line [c, b, hi, lo]) s = .next
        (if 1 < c.toNat then refusedWith d .setStemTiming line .badValue s
        else if setsContext s d c = false then refusedWith d .setStemTiming line .notYours s
        else answered d .setStemTiming line .done (decide (f ≠ b.toNat ∨ r ≠ carriedWord hi lo))
          (BitVec.ofNat 8 f :: asTwo r)
          (withContext c (fun x => { x with failThr := f, revertThr := r }) (fun x => x) s)))

/-- At a block end the Context Store judges both feeds of both studios, moves their runs, makes the transitions that
are due, and raises a BASE notice for each, Studio A before Studio B (R102, R103, R104, R107). The block's frame count
and its so-far results, from which a judgement is made, are the model's fields, log entry 7, and so is the record of the
block whose tests are made, log entry 5. -/
def Obligations.FeedsAreJudgedAtTheBlockEnd : Prop :=
  ∀ s : State,
    let ran (y : Studio) : StudioCtx := { s.ctx.studios.get y with
      stem := feedAfter (roleGood s (stemRole y)) (s.ctx.studios.get y).stem
      safe := feedAfter (roleGood s (safeRole y)) (s.ctx.studios.get y).safe }
    let moved (c : StudioCtx) : StudioCtx := { c with base := levelAfter c }
    let news (y : Studio) (c : StudioCtx) : List Notice :=
      if levelAfter c = c.base then [] else [.base y (levelAfter c)]
    exec .feedJudgement s = .next (noticed (news .a (ran .a) ++ news .b (ran .b))
      { s with ctx := { s.ctx with
        studios := ⟨moved (ran .a), moved (ran .b)⟩
        tested := some s.lanes.block } })

/-! ### The mix (chapter 4, R174, R175) -/

/-- One frame: every gain takes its ramp step, every return and group output is the rounded and saturated value of its
sums, the results so far are sent in every output slot as its function calls for, peaks rise in all three sets, clips are counted and noticed, leaving members at gain 0
are reported, and nothing else changes (R78, R82 to R98, R154, R156, R174; the CLIP notices of one frame in output order, log
entry 9). -/
def Obligations.FrameIsComputed : Prop :=
  ∀ s : State,
    let m := gainsAfter s
    let value (o : Output) : Int := outputBefore s m o
    let gone (n : Line) : Bool := isClearing (s.line n).state
    let off (n : Line) : Bool := (s.line n).state == .free || gone n
    let returns : Vector ReturnOut 16 := Vector.ofFn fun n => ⟨inRange (value (returnOutput n)), !off n, gone n⟩
    let groups : Vector Int 5 := Vector.ofFn fun i => inRange (value ⟨16 + i.val, by omega⟩)
    let news := (outputsWhere (fun o => clips (value o) && (s.mix.clips[o]).quiet == 0)).map
      (fun o => .clip o (raised 65535 (s.mix.clips[o]).count))
    exec .frameComputation s = .next (noticed news { s with
      lanes := { s.lanes with sent := Vector.ofFn fun i => slotCarries s.maps.output[i] s.mix.results }
      mix := { m with
        clips := Vector.ofFn fun o => if clips (value o) then clipCounted s.mix.clips[o] else s.mix.clips[o]
        peaks := Vector.ofFn fun d =>
          { input := Vector.ofFn fun n => max (s.mix.peaks[d]).input[n] (lineInput s n).natAbs
            ret := Vector.ofFn fun n => max (s.mix.peaks[d]).ret[n] (returns[n]).audio.natAbs
            group := Vector.ofFn fun i => max (s.mix.peaks[d]).group[i] (groups[i]).natAbs }
        results := ⟨returns, groups, s.lanes.input⟩ }
      wires := { s.wires with fades := s.wires.fades ++ (linesWhere (fun n =>
        (destOf (s.line n).state).isSome && m.send[n] == 0)).map (fun n => (n, (s.line n).tag)) } })

/-- Mix-minus: with any other input slots of a frame under which every role but line n's active path gives the same
sample, line n's return is the same to the last bit, so its own voice is no operand of it (R91, section 4.6). -/
def Obligations.OwnVoiceNeverReturns : Prop :=
  ∀ (n : Line) (s t t' : State) (other : Vector SlotIn 64),
    let s' : State := { s with lanes := { s.lanes with input := other } }
    (∀ role : Fin 44, role ≠ activeRole s n → sampleOf s' role = sampleOf s role) →
    exec .frameComputation s = .next t → exec .frameComputation s' = .next t' →
    t.mix.results.returns[n] = t'.mix.results.returns[n]

/-- At a block end every quiet count above 0 falls by 1, and each output whose count then stands at 0 with its pending
mark on raises a CLIP notice with its clip count, in output order, its mark off and its quiet count 1000 (R174). -/
def Obligations.QuietCountsFallAtTheBlockEnd : Prop :=
  ∀ s : State,
    let due (c : ClipRec) : Bool := c.quiet == 0 && c.pending
    let fell (c : ClipRec) : ClipRec := { c with quiet := c.quiet - 1 }
    let told (c : ClipRec) : ClipRec := if due c then ⟨c.count, 1000, false⟩ else c
    exec .clipQuietTick s = .next (noticed
      ((outputsWhere (fun k => due (fell s.mix.clips[k]))).map (fun k => .clip k (s.mix.clips[k]).count))
      { s with mix := { s.mix with clips := Vector.ofFn fun k => told (fell s.mix.clips[k]) } })

/-- Three rows that name what comes about inside a block-end step. At a block end whose step the Context Store has not yet
made, with the thresholds as they stand and the runs as this block's judgement moves them, a studio whose tests come to
another level is moved by that step, taken whole and once; at any other time nothing is due. The relock of a FREE-RUN clock
whose relock count stands at 250, and the CLIP notice of one output whose quiet count stands at 0 with its pending mark on;
each changes nothing when it is not due (R104, R106, R107, R114, R149, R174; such rows and the record of the step made, log
entry 5; the block's results, log entry 7). -/
def Obligations.PartsOfABlockEndAlone : Prop :=
  ∀ (x : Studio) (o : Output) (s : State),
    let c := s.ctx.studios.get x
    let k := s.mix.clips[o]
    let level := levelAfter { c with
      stem := feedAfter (roleGood s (stemRole x)) c.stem
      safe := feedAfter (roleGood s (safeRole x)) c.safe }
    let due : Prop := s.lanes.frames = 48 ∧ s.ctx.tested ≠ some s.lanes.block ∧ level ≠ c.base
    (due → ∃ t : State, exec (.baseLevelTransition x) s = .next t ∧ exec .feedJudgement s = .next t ∧
      (t.ctx.studios.get x).base = level ∧ t.ctx.tested = some t.lanes.block) ∧
    (¬due → exec (.baseLevelTransition x) s = .next s) ∧
    (s.lanes.clock = .freeRun ∧ s.lanes.relock = 250 → exec .clockRelock s = .next
      (noticed [.clock .referenced s.lanes.refLane] { s with lanes := { s.lanes with clock := .referenced } })) ∧
    (s.lanes.clock = .referenced ∨ s.lanes.relock ≠ 250 → exec .clockRelock s = .next s) ∧
    (k.quiet = 0 ∧ k.pending = true → exec (.pendingClipNotice o) s = .next (noticed [.clip o k.count]
      { s with mix := { s.mix with clips := s.mix.clips.set o ⟨k.count, 1000, false⟩ } })) ∧
    (k.quiet ≠ 0 ∨ k.pending = false → exec (.pendingClipNotice o) s = .next s)

/-- READ-METERS answers the sending desk's two peaks of the line and its clip count, and sets those two peaks alone to
0; a line byte outside 1 to 16 is refused NO-LINE (R175). -/
def Obligations.ReadMetersClearsTheSendersPeaks : Prop :=
  ∀ (d : Desk) (line : Byte) (s : State), Waits s d .readMeters line [] →
    exec (.readMeters .decided d line []) s = .next
      (match lineOfByte line with
       | none => refusedWith d .readMeters line .noLine s
       | some n =>
         let p := s.mix.peaks[d]
         answered d .readMeters line .done false
           (asThree p.input[n] ++ asThree p.ret[n] ++ asTwo (s.mix.clips[returnOutput n]).count)
           { s with mix := { s.mix with
             peaks := s.mix.peaks.set d { p with input := p.input.set n 0, ret := p.ret.set n 0 } } })

/-- READ-STUDIO answers the queue, group, base-feed and meter parts in their order and sets the sending desk's three
output peaks to 0; a studio byte above 1 is refused BAD-VALUE (R50, R53, R113, R169, R175). -/
def Obligations.ReadStudioShowsTheStudio : Prop :=
  ∀ (d : Desk) (line b : Byte) (s : State), Waits s d .readStudio line [b] →
    let x := namedStudio [b]
    let one (v : Nat) : List Byte := [BitVec.ofNat 8 v]
    let yes (v : Bool) : List Byte := [if v then (1 : Byte) else 0]
    let num (n : Line) : List Byte := one (n.val + 1)
    let shownGroups : List Group := [.air x, .priv x, .screen]
    let q := s.lines.queues.get x
    let queue := one q.length ++ q.flatMap (fun e => num e.line ++ yes e.arriving)
    let holding (g : Group) : List Line := linesWhere (fun n => reservedGroup (s.line n).state == some g)
    let group (g : Group) : List Byte :=
      one (occupied s.lines g) ++ one (groupMembers s.lines g).length ++
      (groupMembers s.lines g).flatMap (fun n => num n ++ yes (destOf (s.line n).state).isSome) ++
      one (holding g).length ++ (holding g).flatMap num
    let c := s.ctx.studios.get x
    let feed (role : Fin 44) (f : FeedRec) : List Byte :=
      yes (s.maps.input[role]).isSome ++ yes f.good ++ asTwo f.goodRun ++ asTwo f.badRun
    let base := one (match c.base with
        | .normal => 0
        | .safe => 1
        | .bare => 2) ++
      feed (stemRole x) c.stem ++ feed (safeRole x) c.safe ++ one c.failThr ++ asTwo c.revertThr ++
      yes c.airConf ++ yes c.privConf ++ one c.duck ++ asTwo c.stemGain ++ asTwo c.holdGain ++ asTwo c.privGain ++
      yes s.ctx.screen.conf ++ one s.ctx.screen.duck ++ asTwo s.ctx.screen.gain
    let p := s.mix.peaks[d]
    let cleared : Vector Nat 5 := Vector.ofFn fun i =>
      if shownGroups.any (fun g => groupIndex g == i) = true then 0 else p.group[i]
    let meters := shownGroups.flatMap (fun g =>
      asThree p.group[groupIndex g] ++ asTwo (s.mix.clips[groupOutput g]).count)
    exec (.readStudio .decided d line [b]) s = .next
      (if 1 < b.toNat then refusedWith d .readStudio line .badValue s
      else answered d .readStudio line .done false (queue ++ shownGroups.flatMap group ++ base ++ meters)
        { s with mix := { s.mix with peaks := s.mix.peaks.set d { p with group := cleared } } })

/-! ### Lanes, clock and maps (chapter 8) -/

/-- One input frame: a lane is locked for it when its sync came aligned; a locked lane's slots are read, audio from bits
31 to 8, VALID from bit 7, CONNECTED from bit 6, and an unlocked lane's slots give audio 0 and VALID 0; the block's own
results are carried on. A block start raises the counter by 1, wrapping, and starts them afresh (R146, R147, R148). The
model's choices: an unlocked lane's CONNECTED bits are held as 0, log entry 17; the count of the block's frames, which
stops at 48, and the two results so far are fields of its own, log entry 7. -/
def Obligations.InputFrameAndBlockStart : Prop :=
  ∀ (lanes : Vector LaneIn 4) (s : State),
    let l := s.lanes
    let slotOf (i : Fin 64) : SlotIn :=
      let lane := lanes[(⟨i.val / 16, by omega⟩ : Lane)]
      let w := lane.slots[(⟨i.val % 16, by omega⟩ : Fin 16)]
      if lane.aligned then ⟨w.extractLsb' 8 24, w.getLsbD 7, w.getLsbD 6⟩ else ⟨0, false, false⟩
    exec (.laneInputFrame lanes) s = .next { s with lanes := { l with
      frames := raised 48 l.frames
      input := Vector.ofFn slotOf
      locked := Vector.ofFn fun i => (lanes[i]).aligned
      lockedSoFar := Vector.ofFn fun i => l.lockedSoFar[i] && (lanes[i]).aligned
      validSoFar := Vector.ofFn fun i => l.validSoFar[i] && (slotOf i).valid } } ∧
    exec .blockStart s = .next { s with lanes := { l with
      block := BitVec.ofNat 32 (l.block.toNat + 1)
      frames := 0
      lockedSoFar := Vector.ofFn fun _ => true
      validSoFar := Vector.ofFn fun _ => true } }

/-- At a block end each lane locked in all 48 frames is judged LOCKED, the counts move, and one test of the clock state
is made: REFERENCED with the reference lane UNLOCKED becomes FREE-RUN, FREE-RUN with the relock count at 250 becomes
REFERENCED, each with a CLOCK notice (R148, R149; the count of the block's frames and the results so far are the model's
fields, log entry 7). -/
def Obligations.LanesAreJudgedAtTheBlockEnd : Prop :=
  ∀ s : State,
    let l := s.lanes
    let locked (i : Lane) : Bool := l.frames == 48 && l.lockedSoFar[i]
    let l' : LaneInterface := { l with
      judged := Vector.ofFn locked
      unlocked := Vector.ofFn fun i => if locked i then l.unlocked[i] else raised 65535 l.unlocked[i]
      relock := if locked l.refLane then raised 250 l.relock else 0 }
    let clocked (st : ClockState) (l : LaneInterface) : State :=
      noticed [.clock st l.refLane] { s with lanes := { l with clock := st } }
    exec .laneBlockEnd s = .next
      (if l.clock = .referenced ∧ locked l.refLane = false then clocked .freeRun l'
      else if l.clock = .freeRun ∧ l'.relock = 250 then clocked .referenced l'
      else { s with lanes := l' })

/-- SET-CLOCK makes the named lane pending, or removes the pending lane when it names the lane in effect; BAD-VALUE for a
lane above 3. At a block start a pending lane becomes the reference lane, with the relock count 0, the clock FREE-RUN and
a CLOCK notice (R150). -/
def Obligations.ReferenceLaneIsPendingUntilABlockStart : Prop :=
  ∀ (d : Desk) (line b : Byte) (s : State),
    (Waits s d .setClock line [b] →
      exec (.setClock .decided d line [b]) s = .next
        (if h : b.toNat < 4 then
          answered d .setClock line .done false [b] { s with lanes := { s.lanes with
            pendingRef := if s.lanes.refLane.val = b.toNat then none else some ⟨b.toNat, h⟩ } }
        else refusedWith d .setClock line .badValue s)) ∧
    exec .referenceLaneChange s = .next
      (match s.lanes.pendingRef with
       | none => s
       | some r => noticed [.clock .freeRun r] { s with lanes := { s.lanes with
           refLane := r, pendingRef := none, relock := 0, clock := .freeRun } })

/-- MAP-INPUT: BAD-VALUE for a role above 43 or a lane or slot outside its values; taken with no change when the value is
the role's next value; BUSY on a path role of a line that is not FREE; otherwise the value becomes the role's pending
change (R152; the reply's data are the carried bytes, log entry 10). -/
def Obligations.MapInputIsDecidedInOrder : Prop :=
  ∀ (d : Desk) (line b lane num : Byte) (role : Fin 44) (s : State), Waits s d .mapInput line [b, lane, num] →
    let value : Option Slot := (slotOfBytes lane num)
    let done (s : State) : State := answered d .mapInput line .done false [b, lane, num] s
    (44 ≤ b.toNat ∨ (lane.toNat ≠ 255 ∧ (4 ≤ lane.toNat ∨ 16 ≤ num.toNat)) →
      exec (.mapInput .decided d line [b, lane, num]) s = .next (refusedWith d .mapInput line .badValue s)) ∧
    (b.toNat = role.val → (lane.toNat = 255 ∨ (lane.toNat < 4 ∧ num.toNat < 16)) →
      exec (.mapInput .decided d line [b, lane, num]) s = .next
        (if value = (s.maps.inPending[role]).getD s.maps.input[role] then done s
        else if role.val < 32 ∧ (s.line (Fin.ofNat 16 role.val)).state ≠ .free then
          refusedWith d .mapInput line .busy s
        else done { s with maps := { s.maps with inPending := s.maps.inPending.set role (some value) } }))

/-- MAP-OUTPUT: BAD-VALUE for an output slot, function code or examined parameter outside its values; otherwise the
function becomes the slot's pending function, whatever any line's state (R155; the reply's data are the carried bytes,
log entry 10). -/
def Obligations.MapOutputIsDecided : Prop :=
  ∀ (d : Desk) (line lane num code p q : Byte) (s : State), Waits s d .mapOutput line [lane, num, code, p, q] →
    let fn : Option OutFn :=
      if code = 0 then some .none
      else if h : code = 1 ∧ 1 ≤ p.toNat ∧ p.toNat ≤ 16 then some (.ret ⟨p.toNat - 1, by omega⟩)
      else if code = 2 ∧ p.toNat ≤ 1 then some (.airMix (if p = 0 then .a else .b))
      else if code = 3 ∧ p.toNat ≤ 1 then some (.privMix (if p = 0 then .a else .b))
      else if code = 4 then some .screenMix
      else if h : code = 5 ∧ p.toNat < 4 ∧ q.toNat < 16 then
        some (.copy ⟨⟨p.toNat, h.2.1⟩, ⟨q.toNat, h.2.2⟩⟩)
      else none
    exec (.mapOutput .decided d line [lane, num, code, p, q]) s = .next
      (match (if lane.toNat < 4 ∧ num.toNat < 16 then fn else none) with
       | none => refusedWith d .mapOutput line .badValue s
       | some f => answered d .mapOutput line .done false [lane, num, code, p, q]
           { s with maps := { s.maps with outPending := Vector.ofFn fun i =>
             if i.val = lane.toNat * 16 + num.toNat then some f else s.maps.outPending[i] } })

/-- At a block start every pending entry of a map enters the map in effect and none is left pending. A changed line path
role restarts its path; an alternate now UNASSIGNED, or a primary now UNASSIGNED, puts the line's mode, active path and
counts back as R139 lists them; a changed stem or safe feed has its runs at 0; the Line Table is handed one event that
names every changed role, and none when no role changed (R105, R139, R153, R155; log entries 18 and 24). -/
def Obligations.PendingMapsTakeEffect : Prop :=
  ∀ s : State,
    let old := s.maps.input
    let new : Vector (Option Slot) 44 := Vector.ofFn fun i => (s.maps.inPending[i]).getD old[i]
    let changed (role : Fin 44) : Bool := old[role] != new[role]
    let fresh (b : Bool) (p : PathRec) : PathRec :=
      if b then { p with goodRun := 0, badRun := 0, connected := false } else p
    let line (n : Line) : PathLine :=
      let p := s.paths[n]
      let noPrimary := changed (primaryRole n) && new[primaryRole n] == none
      let noAlternate := changed (alternateRole n) && new[alternateRole n] == none
      let forcedAway := noAlternate && (p.mode == .alternate || p.pending == some .alternate)
      { p with
        primary := fresh (changed (primaryRole n) || noPrimary) p.primary
        alternate := fresh (changed (alternateRole n) || noPrimary) p.alternate
        active := if noPrimary || noAlternate then .primary else p.active
        mode := if noPrimary || forcedAway then .auto else p.mode
        pending := if noPrimary || forcedAway then none else p.pending
        arrival := if noPrimary then 0 else p.arrival
        gone := if noPrimary then 0 else p.gone }
    let feed (role : Fin 44) (f : FeedRec) : FeedRec :=
      if changed role then { f with goodRun := 0, badRun := 0 } else f
    let studio (x : Studio) : StudioCtx := { s.ctx.studios.get x with
      stem := feed (stemRole x) (s.ctx.studios.get x).stem
      safe := feed (safeRole x) (s.ctx.studios.get x).safe }
    exec .inputMapApply s = .next { s with
      maps := { s.maps with input := new, inPending := Vector.ofFn fun _ => none }
      paths := Vector.ofFn line
      ctx := { s.ctx with studios := ⟨studio .a, studio .b⟩ }
      wires := { s.wires with mapChanges := s.wires.mapChanges ++
        (if old = new then [] else [(List.finRange 44).filter changed]) } } ∧
    exec .outputMapApply s = .next { s with maps := { s.maps with
      output := Vector.ofFn fun i => (s.maps.outPending[i]).getD s.maps.output[i]
      outPending := Vector.ofFn fun _ => none } }

/-! ### Line paths (chapter 7) -/

/-- The Path Monitor's block end: for every line the pending mode, the judgements, the runs, the connected values, the
active path, the fault and the counts by their rules; then a PATH notice for each line whose active path or fault differs
from the last reported, and after them party present at an arrival count of 20 and party gone at a gone count of 200,
each in ascending line order (R133 to R138, R140 to R142). The block's frame count and its so-far results, from which the
judgements and the connected values are made, are the model's fields, log entry 7, and so is each line's record of the
block whose step is made, log entry 5. -/
def Obligations.PathsAreJudgedAtTheBlockEnd : Prop :=
  ∀ s : State,
    let after (n : Line) : PathLine := pathLineAfter s n
    let differs (n : Line) : Bool :=
      (after n).active != (after n).lastActive || (after n).fault != (after n).lastFault
    let news := (linesWhere differs).map (fun n => .path n (after n).active (after n).primary.judgement
      (after n).alternate.judgement (after n).fault)
    let events (n : Line) : List PartyEvent :=
      (if (s.paths[n]).arrival ≠ 20 ∧ (after n).arrival = 20 then [.present n] else []) ++
      (if (s.paths[n]).gone ≠ 200 ∧ (after n).gone = 200 then [.gone n] else [])
    exec .pathBlockEnd s = .next (noticed news { s with
      paths := Vector.ofFn fun n =>
        { after n with
          lastActive := (after n).active
          lastFault := (after n).fault
          tested := some s.lanes.block }
      wires := { s.wires with parties := s.wires.parties ++ (linesWhere fun _ => true).flatMap events } })

/-- Rows that name what comes about inside the Path Monitor's block-end step: at a block end whose step is not yet made, each
is that step, taken whole and once, when in it a pending mode of the line takes effect with all runs restarted, or in AUTO
the failed active path gives way to a GOOD other path, or with no failover due auto-revert returns the line to its primary
at the revert threshold; at any other time nothing is due. The tests find the pending mode applied and the runs as this
block's judgement moves them (R136, R137). A restart sets both counts to 0 and, for a move to FREE, makes AUTO pending when a
mode is forced or pending (R143; such rows and the record of the step made, log entry 5; the block's results, log entry
7). -/
def Obligations.PathChangesOfALine : Prop :=
  ∀ (n : Line) (toFree : Bool) (s : State),
    let p := s.paths[n]
    let q : PathLine :=
      match p.pending with
      | none => p
      | some m => { p with
          mode := m
          pending := none
          primary := noRuns p.primary
          alternate := noRuns p.alternate
          active := if m = .primary then .primary else if m = .alternate then .alternate else p.active }
    let now (role : Fin 44) (r : PathRec) : PathRec :=
      pathAfter (judged s n role) (connectedAfter s n role r.connected) r.goodRun r.badRun
    let first := now (primaryRole n) q.primary
    let second := now (alternateRole n) q.alternate
    let mine := if q.active = .primary then first else second
    let other := if q.active = .primary then second else first
    let due : Prop := s.lanes.frames = 48 ∧ ∀ k : Line, (s.paths[k]).tested ≠ some s.lanes.block
    let fails : Prop := q.mode = .auto ∧ q.failThr ≤ mine.badRun ∧ other.judgement = .good
    let reverts : Prop := ¬fails ∧ q.mode = .auto ∧ q.active = .alternate ∧ q.autoRevert = true ∧
      q.revertThr ≤ first.goodRun
    (due ∧ p.pending ≠ none → ∃ t : State, exec (.pendingModeApply n) s = .next t ∧ exec .pathBlockEnd s = .next t ∧
      some (t.paths[n]).mode = p.pending ∧ (t.paths[n]).pending = none ∧ (t.paths[n]).primary = first ∧
      (t.paths[n]).alternate = second ∧ (q.mode ≠ .auto → (t.paths[n]).active = q.active)) ∧
    (¬(due ∧ p.pending ≠ none) → exec (.pendingModeApply n) s = .next s) ∧
    (due ∧ fails → ∃ t : State, exec (.failover n) s = .next t ∧ exec .pathBlockEnd s = .next t ∧
      (t.paths[n]).active = if q.active = .primary then .alternate else .primary) ∧
    (¬(due ∧ fails) → exec (.failover n) s = .next s) ∧
    (due ∧ reverts → ∃ t : State, exec (.revert n) s = .next t ∧ exec .pathBlockEnd s = .next t ∧
      (t.paths[n]).active = .primary) ∧
    (¬(due ∧ reverts) → exec (.revert n) s = .next s) ∧
    exec (.pathRestart n toFree) s = .next { s with
      wires := { s.wires with restarts := s.wires.restarts.erase (n, toFree) }
      paths := s.paths.set n { p with
        arrival := 0
        gone := 0
        pending := if toFree = true ∧ (p.mode ≠ .auto ∨ p.pending ≠ none) then some .auto else p.pending } }

/-! ### Reset and the Start-up Loader (chapter 11) -/

/-- RESET gives every block the reset values of its rule, samples the three straps and starts a load; the values the
spec gives no number for are the model's (log entries 5, 11 and 13), and the waiting commands stand (R1, R10, R73, R100, R115, R131,
R147, R149, R151, R154, R177, R178). -/
def Obligations.ResetLeavesTheResetValues : Prop :=
  ∀ (e0 e1 e2 : Bool) (s : State), ∃ t : State, exec (.reset e0 e1 e2) s = .next t ∧
    (∀ n : Line, t.lines.recs[n] = ⟨.free, .a, 16384, 16384, [], 0⟩) ∧ t.lines.queues = ⟨[], []⟩ ∧
    t.lines.fallback = true ∧
    (∀ x : Studio, t.ctx.studios.get x =
      ⟨true, true, 2, 16384, 16384, 16384, .bare, ⟨false, 0, 0⟩, ⟨false, 0, 0⟩, 8, 500⟩) ∧
    t.ctx.screen = ⟨true, 2, 16384⟩ ∧ t.ctx.tested = none ∧
    (∀ n : Line, t.mix.send[n] = 0 ∧ t.mix.ret[n] = 0) ∧ t.mix.gains = ⟨⟨0, 0, 0⟩, ⟨0, 0, 0⟩⟩ ∧
    t.mix.screenTalk = 0 ∧ (∀ o : Output, t.mix.clips[o] = ⟨0, 0, false⟩) ∧
    (∀ (d : Desk) (n : Line) (i : Fin 5), (t.mix.peaks[d]).input[n] = 0 ∧ (t.mix.peaks[d]).ret[n] = 0 ∧
      (t.mix.peaks[d]).group[i] = 0) ∧
    (∀ n : Line, t.talk.holds[n] = none) ∧
    (∀ d : Desk, t.talk.gain[d] = 16384 ∧ t.talk.timeout[d] = 120 ∧ t.talk.view[d] = .lost) ∧
    (∀ n : Line, t.paths[n] = ⟨⟨.none, 0, 0, false⟩, ⟨.none, 0, 0, false⟩, .auto, none, .primary, false, 8, 500,
      true, 0, 0, .primary, false, none⟩) ∧
    t.lanes.block = 0 ∧ t.lanes.clock = .freeRun ∧ t.lanes.refLane = 0 ∧ t.lanes.pendingRef = none ∧
    t.lanes.relock = 0 ∧ (∀ i : Lane, t.lanes.judged[i] = false ∧ t.lanes.unlocked[i] = 0) ∧
    (∀ role : Fin 44, t.maps.input[role] = none ∧ t.maps.inPending[role] = none) ∧
    (∀ i : Fin 64, t.maps.output[i] = .none ∧ t.maps.outPending[i] = none) ∧
    (∀ d : Desk, t.desks[d] = ⟨.hunt, 0, 0, [], false, .idle, .lost, 0, 0x07FF, [], 0,
      ([e0, e1, e2] : List Bool).getD d.val false, [], []⟩) ∧
    t.loader = ⟨.header ⟨[], 0⟩, none⟩ ∧ t.wires = ⟨[], [], [], [], []⟩ ∧ t.pending = s.pending

/-- The Loader's header, the silence of its memory, and LOAD-CONFIG. The data of a read are put behind those read before;
with fewer than four bytes the next read starts; a wrong marker or a count above 1000 ends the load with BAD-HEADER, a
count of 0 with OK. A read that has waited 20 blocks can fail, and the data of one that has waited longer do not count:
the load ends with ABSENT at the header and STOPPED with bad check at a message. LOAD-CONFIG starts a load in RUNNING and
is refused STARTING in LOADING (R178, R180, R181; one read's data a row, and both outcomes in the twentieth block, log
entry 11; bytes past the fourth are no header, log entry 19; a wrong marker is judged with the count, the model's choice,
log entry 28). -/
def Obligations.LoadsBeginAndEnd : Prop :=
  ∀ (d : Desk) (line : Byte) (got : List Byte) (b0 b1 b2 b3 : Option Byte) (since : BlockNo) (s : State),
    let silent : State :=
      match s.loader.stage with
      | .message k _ _ => loadEnded (.stopped k 255) s
      | _ => loadEnded .absent s
    (s.loader.stage = .header ⟨got, since⟩ → exec (.loaderHeader b0 b1 b2 b3) s = .next
      (if 20 < blocksSince since s then silent
      else
        match got ++ [b0, b1, b2, b3].filterMap id with
        | [m0, m1, c1, c0] =>
          if m0 ≠ 0x48 ∨ m1 ≠ 0x5A ∨ 1000 < carriedWord c1 c0 then loadEnded .badHeader s
          else if carriedWord c1 c0 = 0 then loadEnded .ok s
          else loads (.message 1 (carriedWord c1 c0) ⟨[], s.lanes.block⟩) s
        | all => if all.length < 4 then loads (.header ⟨all, s.lanes.block⟩) s else loadEnded .badHeader s)) ∧
    exec .memoryTimeout s = .next
      (match s.loader.stage with
       | .running => s
       | .header r | .message _ _ r => if 20 ≤ blocksSince r.since s then silent else s) ∧
    (Waits s d .loadConfig line [] → exec (.loadConfig .decided d line []) s = .next
      (if s.loader.stage = .running then
        answered d .loadConfig line .done false [] (loads (.header ⟨[], s.lanes.block⟩) s)
      else refusedWith d .loadConfig line .starting s))

/-- The data of a read of an image message are put behind those read before. While the lead and the length are right as
far as they are read and the check is not reached, the next read starts. A message that fails its form, or whose data come
after the wait, ends the load with STOPPED and bad check; one with a code outside the catalogue with UNKNOWN, and one that
no owner can take from the Loader with its refusal; nothing but the Loader and the LOAD notice changes (R178, R179, R180;
one read's data a row, log entry 11). Bytes that go past the check fail the form: the model's choice, log entry 19. -/
def Obligations.ImageMessageStopsTheLoad : Prop :=
  ∀ (got bytes : List Byte) (since : BlockNo) (code line : Byte) (op : Op) (args : List Byte) (k count : Nat)
    (s : State),
    s.loader.stage = .message k count ⟨got, since⟩ → args.length ≤ 58 →
    let all := got ++ bytes
    let len := (all.getD 1 0).toNat
    let unfinished : Prop := (1 ≤ all.length → all.getD 0 0 = 0xA5) ∧
      (2 ≤ all.length → 2 ≤ len ∧ len ≤ 60 ∧ all.length < len + 3)
    let wellFormed : Prop := all.getD 0 0 = 0xA5 ∧ 2 ≤ len ∧ len ≤ 60 ∧ all.length = len + 3 ∧ (all.drop 1).sum = 0
    (20 < blocksSince since s → exec (.loaderMessage bytes) s = .next (loadEnded (.stopped k 255) s)) ∧
    (blocksSince since s ≤ 20 →
      (unfinished → exec (.loaderMessage bytes) s = .next (loads (.message k count ⟨all, s.lanes.block⟩) s)) ∧
      (¬unfinished → ¬wellFormed →
        exec (.loaderMessage bytes) s = .next (loadEnded (.stopped k 255) s)) ∧
      (code ∉ allOps.map opCode → all = encodeFull code line args →
        exec (.loaderMessage bytes) s = .next (loadEnded (.stopped k 11) s)) ∧
      (all = encodeFull (opCode op) line args → ∀ r ∈ imageRefusal op line args s,
        exec (.loaderMessage bytes) s =
          .next (loadEnded (.stopped k (BitVec.ofNat 8 (resultNumber r))) s)))

/-- A message of the image that the Loader can have taken: NOP, LINK-STATUS and the reads change nothing but the Loader. A
setting has the result and the effect its owner gives the same command from an ENG-permitted desk, on the same state but for
that desk's controller, which has its strap high and the command alone handed on; no controller is changed. DONE goes on to
the next message or ends the load with OK, any other result stops it (R178, R179, R180; one read's data a row, log entry
11). -/
def Obligations.ImageMessageHasItsOwnersEffect : Prop :=
  ∀ (d : Desk) (line : Byte) (op : Op) (got bytes : List Byte) (since : BlockNo) (args : List Byte) (k count : Nat)
    (s : State),
    s.loader.stage = .message k count ⟨got, since⟩ → blocksSince since s ≤ 20 →
    got ++ bytes = encodeFull (opCode op) line args → argCountFits op args.length = true →
    (op = .nop ∨ op = .linkStatus ∨ ((op = .readLine ∨ op = .readMeters) ∧ (lineOfByte line).isSome = true) ∨
        (op = .readStudio ∧ (args.getD 0 0).toNat ≤ 1) →
      exec (.loaderMessage bytes) s = .next (loadGoesOn k count s)) ∧
    ((op = .readLine ∨ op = .readMeters) ∧ lineOfByte line = none →
      exec (.loaderMessage bytes) s = .next (loadEnded (.stopped k 6) s)) ∧
    (op = .readStudio ∧ 2 ≤ (args.getD 0 0).toNat →
      exec (.loaderMessage bytes) s = .next (loadEnded (.stopped k 10) s)) ∧
    (op ∈ [Op.setConf, .setCtxGain, .setDuck, .setTalkGain, .mapInput, .mapOutput, .setPathTiming,
        .setStemTiming, .setClock, .setTalkTimeout] →
      let fromDesk : State := { s with desks := s.desks.set d { s.desks[d] with
        strap := true
        handed := [(ownerOf op, .command op line args)]
        replies := [.waiting (ownerOf op)] } }
      ∃ t : State, exec (commandOf op .decided d line args) fromDesk = .next t ∧
        ∃ reply : Reply, (t.desk d).replies = [.ready reply] ∧
          let u : State := { t with desks := s.desks }
          exec (.loaderMessage bytes) s = .next
            (if reply.result = .done then loadGoesOn k count u
            else loadEnded (.stopped k (BitVec.ofNat 8 (resultNumber reply.result))) u))

/-! ### Laws every step keeps -/

/-- Reset meets every law of the part. -/
def Obligations.ResetMeetsTheLaws : Prop :=
  QueueLaw State.reset.lines ∧ DestLaw State.reset.lines ∧ CapacityLaw State.reset.lines ∧
  RecordLaw State.reset.lines ∧ HolderLaw State.reset ∧ GainLaw State.reset ∧ RunLaw State.reset ∧
  (∀ n : Line, ModeLaw State.reset.paths[n]) ∧ ClockLaw State.reset.lanes ∧ OutputLaw State.reset.mix ∧
  loaderLegal State.reset.loader = true ∧
  (∀ d : Desk, ControllerLaw (State.reset.desk d) ∧ ReplyLaw (State.reset.desk d) ∧ HandedLaw (State.reset.desk d))

/-- Every step keeps the law of the ready queues: each QUEUED line has one confirmed entry in its studio's queue, each
line leaving SCREEN for a queue one arriving entry in it, no other line an entry, and no queue more than 8; leaving lines
keep a legal destination (R27, R28). -/
def Obligations.StepsKeepTheReadyQueues : Prop :=
  ∀ s t : State, QueueLaw s.lines → DestLaw s.lines → step s = .next t → QueueLaw t.lines ∧ DestLaw t.lines

/-- Every step keeps every group within its capacity, reservations counted (R8, R51). -/
def Obligations.StepsKeepTheCapacities : Prop :=
  ∀ s t : State, CapacityLaw s.lines → step s = .next t → CapacityLaw t.lines

/-- Every step keeps each controller's queues, counts and assembler in their ranges, a LOST link's notice queue empty,
every command handed on beside the block that owns it, and one waiting reply place for each of them that is not yet
decided (R159 to R167, R171, R172). -/
def Obligations.StepsKeepTheControllers : Prop :=
  ∀ s t : State, (∀ d : Desk, ControllerLaw (s.desk d) ∧ ReplyLaw (s.desk d) ∧ HandedLaw (s.desk d)) →
    step s = .next t → ∀ d : Desk, ControllerLaw (t.desk d) ∧ ReplyLaw (t.desk d) ∧ HandedLaw (t.desk d)

/-- Every step keeps the holder of each line's talk a desk whose link view is LIVE (R115, R122). -/
def Obligations.StepsKeepHoldersLive : Prop :=
  ∀ s t : State, HolderLaw s → step s = .next t → HolderLaw t

/-- Every step keeps in their ranges: each line's levels, label and clearing count; each context's duck depth, gain
targets and thresholds; every current gain; the talk gains and talk timeouts; the runs of every feed and path, at most
one of two above 0; each line's path thresholds, arrival count and gone count; the lanes' frame, relock and
unlocked-block counts; the computed samples, clip counts, quiet counts and peaks; the Loader's message number and its
unfinished reading. A forced path mode stays on its own path, and the relock count stands at 250 in REFERENCED (R1, R21, R24, R73, R75, R77, R82, R100, R103, R115, R131, R134,
R137, R148, R149, R174, R178). -/
def Obligations.StepsKeepTheRanges : Prop :=
  ∀ s t : State, RecordLaw s.lines → GainLaw s → RunLaw s → (∀ n : Line, ModeLaw s.paths[n]) → ClockLaw s.lanes →
    OutputLaw s.mix → loaderLegal s.loader = true → step s = .next t →
    RecordLaw t.lines ∧ GainLaw t ∧ RunLaw t ∧ (∀ n : Line, ModeLaw t.paths[n]) ∧ ClockLaw t.lanes ∧ OutputLaw t.mix ∧
    loaderLegal t.loader = true
end

