-- ==== Sys2Proof/Laws/State.lean ====
section
/-! SUPPORT. One lemma per field per update of State: what a replaced block shows, and that every other
field stands. Each is true by rfl and in the simp set, so no proof unfolds a record update. -/

namespace Sys2Proof.Machine

/-! ### State.withPending -/

@[simp] theorem State.withPending_pending (s : State) (v : List Instr) : (s.withPending v).pending = v := rfl
@[simp] theorem State.withPending_lines (s : State) (v : List Instr) : (s.withPending v).lines = s.lines := rfl
@[simp] theorem State.withPending_ctx (s : State) (v : List Instr) : (s.withPending v).ctx = s.ctx := rfl
@[simp] theorem State.withPending_mix (s : State) (v : List Instr) : (s.withPending v).mix = s.mix := rfl
@[simp] theorem State.withPending_talk (s : State) (v : List Instr) : (s.withPending v).talk = s.talk := rfl
@[simp] theorem State.withPending_paths (s : State) (v : List Instr) : (s.withPending v).paths = s.paths := rfl
@[simp] theorem State.withPending_lanes (s : State) (v : List Instr) : (s.withPending v).lanes = s.lanes := rfl
@[simp] theorem State.withPending_maps (s : State) (v : List Instr) : (s.withPending v).maps = s.maps := rfl
@[simp] theorem State.withPending_desks (s : State) (v : List Instr) : (s.withPending v).desks = s.desks := rfl
@[simp] theorem State.withPending_loader (s : State) (v : List Instr) : (s.withPending v).loader = s.loader := rfl
@[simp] theorem State.withPending_wires (s : State) (v : List Instr) : (s.withPending v).wires = s.wires := rfl

@[simp] theorem State.withPending_withPending (s : State) (u v : List Instr) : (s.withPending u).withPending v = s.withPending v := rfl
@[simp] theorem State.withPending_self (s : State) : s.withPending s.pending = s := rfl

/-! ### State.withLines -/

@[simp] theorem State.withLines_pending (s : State) (v : LineTable) : (s.withLines v).pending = s.pending := rfl
@[simp] theorem State.withLines_lines (s : State) (v : LineTable) : (s.withLines v).lines = v := rfl
@[simp] theorem State.withLines_ctx (s : State) (v : LineTable) : (s.withLines v).ctx = s.ctx := rfl
@[simp] theorem State.withLines_mix (s : State) (v : LineTable) : (s.withLines v).mix = s.mix := rfl
@[simp] theorem State.withLines_talk (s : State) (v : LineTable) : (s.withLines v).talk = s.talk := rfl
@[simp] theorem State.withLines_paths (s : State) (v : LineTable) : (s.withLines v).paths = s.paths := rfl
@[simp] theorem State.withLines_lanes (s : State) (v : LineTable) : (s.withLines v).lanes = s.lanes := rfl
@[simp] theorem State.withLines_maps (s : State) (v : LineTable) : (s.withLines v).maps = s.maps := rfl
@[simp] theorem State.withLines_desks (s : State) (v : LineTable) : (s.withLines v).desks = s.desks := rfl
@[simp] theorem State.withLines_loader (s : State) (v : LineTable) : (s.withLines v).loader = s.loader := rfl
@[simp] theorem State.withLines_wires (s : State) (v : LineTable) : (s.withLines v).wires = s.wires := rfl

@[simp] theorem State.withLines_withLines (s : State) (u v : LineTable) : (s.withLines u).withLines v = s.withLines v := rfl
@[simp] theorem State.withLines_self (s : State) : s.withLines s.lines = s := rfl

/-! ### State.withCtx -/

@[simp] theorem State.withCtx_pending (s : State) (v : ContextStore) : (s.withCtx v).pending = s.pending := rfl
@[simp] theorem State.withCtx_lines (s : State) (v : ContextStore) : (s.withCtx v).lines = s.lines := rfl
@[simp] theorem State.withCtx_ctx (s : State) (v : ContextStore) : (s.withCtx v).ctx = v := rfl
@[simp] theorem State.withCtx_mix (s : State) (v : ContextStore) : (s.withCtx v).mix = s.mix := rfl
@[simp] theorem State.withCtx_talk (s : State) (v : ContextStore) : (s.withCtx v).talk = s.talk := rfl
@[simp] theorem State.withCtx_paths (s : State) (v : ContextStore) : (s.withCtx v).paths = s.paths := rfl
@[simp] theorem State.withCtx_lanes (s : State) (v : ContextStore) : (s.withCtx v).lanes = s.lanes := rfl
@[simp] theorem State.withCtx_maps (s : State) (v : ContextStore) : (s.withCtx v).maps = s.maps := rfl
@[simp] theorem State.withCtx_desks (s : State) (v : ContextStore) : (s.withCtx v).desks = s.desks := rfl
@[simp] theorem State.withCtx_loader (s : State) (v : ContextStore) : (s.withCtx v).loader = s.loader := rfl
@[simp] theorem State.withCtx_wires (s : State) (v : ContextStore) : (s.withCtx v).wires = s.wires := rfl

@[simp] theorem State.withCtx_withCtx (s : State) (u v : ContextStore) : (s.withCtx u).withCtx v = s.withCtx v := rfl
@[simp] theorem State.withCtx_self (s : State) : s.withCtx s.ctx = s := rfl

/-! ### State.withMix -/

@[simp] theorem State.withMix_pending (s : State) (v : MixEngine) : (s.withMix v).pending = s.pending := rfl
@[simp] theorem State.withMix_lines (s : State) (v : MixEngine) : (s.withMix v).lines = s.lines := rfl
@[simp] theorem State.withMix_ctx (s : State) (v : MixEngine) : (s.withMix v).ctx = s.ctx := rfl
@[simp] theorem State.withMix_mix (s : State) (v : MixEngine) : (s.withMix v).mix = v := rfl
@[simp] theorem State.withMix_talk (s : State) (v : MixEngine) : (s.withMix v).talk = s.talk := rfl
@[simp] theorem State.withMix_paths (s : State) (v : MixEngine) : (s.withMix v).paths = s.paths := rfl
@[simp] theorem State.withMix_lanes (s : State) (v : MixEngine) : (s.withMix v).lanes = s.lanes := rfl
@[simp] theorem State.withMix_maps (s : State) (v : MixEngine) : (s.withMix v).maps = s.maps := rfl
@[simp] theorem State.withMix_desks (s : State) (v : MixEngine) : (s.withMix v).desks = s.desks := rfl
@[simp] theorem State.withMix_loader (s : State) (v : MixEngine) : (s.withMix v).loader = s.loader := rfl
@[simp] theorem State.withMix_wires (s : State) (v : MixEngine) : (s.withMix v).wires = s.wires := rfl

@[simp] theorem State.withMix_withMix (s : State) (u v : MixEngine) : (s.withMix u).withMix v = s.withMix v := rfl
@[simp] theorem State.withMix_self (s : State) : s.withMix s.mix = s := rfl

/-! ### State.withTalk -/

@[simp] theorem State.withTalk_pending (s : State) (v : TalkArbiter) : (s.withTalk v).pending = s.pending := rfl
@[simp] theorem State.withTalk_lines (s : State) (v : TalkArbiter) : (s.withTalk v).lines = s.lines := rfl
@[simp] theorem State.withTalk_ctx (s : State) (v : TalkArbiter) : (s.withTalk v).ctx = s.ctx := rfl
@[simp] theorem State.withTalk_mix (s : State) (v : TalkArbiter) : (s.withTalk v).mix = s.mix := rfl
@[simp] theorem State.withTalk_talk (s : State) (v : TalkArbiter) : (s.withTalk v).talk = v := rfl
@[simp] theorem State.withTalk_paths (s : State) (v : TalkArbiter) : (s.withTalk v).paths = s.paths := rfl
@[simp] theorem State.withTalk_lanes (s : State) (v : TalkArbiter) : (s.withTalk v).lanes = s.lanes := rfl
@[simp] theorem State.withTalk_maps (s : State) (v : TalkArbiter) : (s.withTalk v).maps = s.maps := rfl
@[simp] theorem State.withTalk_desks (s : State) (v : TalkArbiter) : (s.withTalk v).desks = s.desks := rfl
@[simp] theorem State.withTalk_loader (s : State) (v : TalkArbiter) : (s.withTalk v).loader = s.loader := rfl
@[simp] theorem State.withTalk_wires (s : State) (v : TalkArbiter) : (s.withTalk v).wires = s.wires := rfl

@[simp] theorem State.withTalk_withTalk (s : State) (u v : TalkArbiter) : (s.withTalk u).withTalk v = s.withTalk v := rfl
@[simp] theorem State.withTalk_self (s : State) : s.withTalk s.talk = s := rfl

/-! ### State.withPaths -/

@[simp] theorem State.withPaths_pending (s : State) (v : Vector PathLine 16) : (s.withPaths v).pending = s.pending := rfl
@[simp] theorem State.withPaths_lines (s : State) (v : Vector PathLine 16) : (s.withPaths v).lines = s.lines := rfl
@[simp] theorem State.withPaths_ctx (s : State) (v : Vector PathLine 16) : (s.withPaths v).ctx = s.ctx := rfl
@[simp] theorem State.withPaths_mix (s : State) (v : Vector PathLine 16) : (s.withPaths v).mix = s.mix := rfl
@[simp] theorem State.withPaths_talk (s : State) (v : Vector PathLine 16) : (s.withPaths v).talk = s.talk := rfl
@[simp] theorem State.withPaths_paths (s : State) (v : Vector PathLine 16) : (s.withPaths v).paths = v := rfl
@[simp] theorem State.withPaths_lanes (s : State) (v : Vector PathLine 16) : (s.withPaths v).lanes = s.lanes := rfl
@[simp] theorem State.withPaths_maps (s : State) (v : Vector PathLine 16) : (s.withPaths v).maps = s.maps := rfl
@[simp] theorem State.withPaths_desks (s : State) (v : Vector PathLine 16) : (s.withPaths v).desks = s.desks := rfl
@[simp] theorem State.withPaths_loader (s : State) (v : Vector PathLine 16) : (s.withPaths v).loader = s.loader := rfl
@[simp] theorem State.withPaths_wires (s : State) (v : Vector PathLine 16) : (s.withPaths v).wires = s.wires := rfl

@[simp] theorem State.withPaths_withPaths (s : State) (u v : Vector PathLine 16) : (s.withPaths u).withPaths v = s.withPaths v := rfl
@[simp] theorem State.withPaths_self (s : State) : s.withPaths s.paths = s := rfl

/-! ### State.withLanes -/

@[simp] theorem State.withLanes_pending (s : State) (v : LaneInterface) : (s.withLanes v).pending = s.pending := rfl
@[simp] theorem State.withLanes_lines (s : State) (v : LaneInterface) : (s.withLanes v).lines = s.lines := rfl
@[simp] theorem State.withLanes_ctx (s : State) (v : LaneInterface) : (s.withLanes v).ctx = s.ctx := rfl
@[simp] theorem State.withLanes_mix (s : State) (v : LaneInterface) : (s.withLanes v).mix = s.mix := rfl
@[simp] theorem State.withLanes_talk (s : State) (v : LaneInterface) : (s.withLanes v).talk = s.talk := rfl
@[simp] theorem State.withLanes_paths (s : State) (v : LaneInterface) : (s.withLanes v).paths = s.paths := rfl
@[simp] theorem State.withLanes_lanes (s : State) (v : LaneInterface) : (s.withLanes v).lanes = v := rfl
@[simp] theorem State.withLanes_maps (s : State) (v : LaneInterface) : (s.withLanes v).maps = s.maps := rfl
@[simp] theorem State.withLanes_desks (s : State) (v : LaneInterface) : (s.withLanes v).desks = s.desks := rfl
@[simp] theorem State.withLanes_loader (s : State) (v : LaneInterface) : (s.withLanes v).loader = s.loader := rfl
@[simp] theorem State.withLanes_wires (s : State) (v : LaneInterface) : (s.withLanes v).wires = s.wires := rfl

@[simp] theorem State.withLanes_withLanes (s : State) (u v : LaneInterface) : (s.withLanes u).withLanes v = s.withLanes v := rfl
@[simp] theorem State.withLanes_self (s : State) : s.withLanes s.lanes = s := rfl

/-! ### State.withMaps -/

@[simp] theorem State.withMaps_pending (s : State) (v : SlotMap) : (s.withMaps v).pending = s.pending := rfl
@[simp] theorem State.withMaps_lines (s : State) (v : SlotMap) : (s.withMaps v).lines = s.lines := rfl
@[simp] theorem State.withMaps_ctx (s : State) (v : SlotMap) : (s.withMaps v).ctx = s.ctx := rfl
@[simp] theorem State.withMaps_mix (s : State) (v : SlotMap) : (s.withMaps v).mix = s.mix := rfl
@[simp] theorem State.withMaps_talk (s : State) (v : SlotMap) : (s.withMaps v).talk = s.talk := rfl
@[simp] theorem State.withMaps_paths (s : State) (v : SlotMap) : (s.withMaps v).paths = s.paths := rfl
@[simp] theorem State.withMaps_lanes (s : State) (v : SlotMap) : (s.withMaps v).lanes = s.lanes := rfl
@[simp] theorem State.withMaps_maps (s : State) (v : SlotMap) : (s.withMaps v).maps = v := rfl
@[simp] theorem State.withMaps_desks (s : State) (v : SlotMap) : (s.withMaps v).desks = s.desks := rfl
@[simp] theorem State.withMaps_loader (s : State) (v : SlotMap) : (s.withMaps v).loader = s.loader := rfl
@[simp] theorem State.withMaps_wires (s : State) (v : SlotMap) : (s.withMaps v).wires = s.wires := rfl

@[simp] theorem State.withMaps_withMaps (s : State) (u v : SlotMap) : (s.withMaps u).withMaps v = s.withMaps v := rfl
@[simp] theorem State.withMaps_self (s : State) : s.withMaps s.maps = s := rfl

/-! ### State.withDesks -/

@[simp] theorem State.withDesks_pending (s : State) (v : Vector Controller 3) : (s.withDesks v).pending = s.pending := rfl
@[simp] theorem State.withDesks_lines (s : State) (v : Vector Controller 3) : (s.withDesks v).lines = s.lines := rfl
@[simp] theorem State.withDesks_ctx (s : State) (v : Vector Controller 3) : (s.withDesks v).ctx = s.ctx := rfl
@[simp] theorem State.withDesks_mix (s : State) (v : Vector Controller 3) : (s.withDesks v).mix = s.mix := rfl
@[simp] theorem State.withDesks_talk (s : State) (v : Vector Controller 3) : (s.withDesks v).talk = s.talk := rfl
@[simp] theorem State.withDesks_paths (s : State) (v : Vector Controller 3) : (s.withDesks v).paths = s.paths := rfl
@[simp] theorem State.withDesks_lanes (s : State) (v : Vector Controller 3) : (s.withDesks v).lanes = s.lanes := rfl
@[simp] theorem State.withDesks_maps (s : State) (v : Vector Controller 3) : (s.withDesks v).maps = s.maps := rfl
@[simp] theorem State.withDesks_desks (s : State) (v : Vector Controller 3) : (s.withDesks v).desks = v := rfl
@[simp] theorem State.withDesks_loader (s : State) (v : Vector Controller 3) : (s.withDesks v).loader = s.loader := rfl
@[simp] theorem State.withDesks_wires (s : State) (v : Vector Controller 3) : (s.withDesks v).wires = s.wires := rfl

@[simp] theorem State.withDesks_withDesks (s : State) (u v : Vector Controller 3) : (s.withDesks u).withDesks v = s.withDesks v := rfl
@[simp] theorem State.withDesks_self (s : State) : s.withDesks s.desks = s := rfl

/-! ### State.withLoader -/

@[simp] theorem State.withLoader_pending (s : State) (v : Loader) : (s.withLoader v).pending = s.pending := rfl
@[simp] theorem State.withLoader_lines (s : State) (v : Loader) : (s.withLoader v).lines = s.lines := rfl
@[simp] theorem State.withLoader_ctx (s : State) (v : Loader) : (s.withLoader v).ctx = s.ctx := rfl
@[simp] theorem State.withLoader_mix (s : State) (v : Loader) : (s.withLoader v).mix = s.mix := rfl
@[simp] theorem State.withLoader_talk (s : State) (v : Loader) : (s.withLoader v).talk = s.talk := rfl
@[simp] theorem State.withLoader_paths (s : State) (v : Loader) : (s.withLoader v).paths = s.paths := rfl
@[simp] theorem State.withLoader_lanes (s : State) (v : Loader) : (s.withLoader v).lanes = s.lanes := rfl
@[simp] theorem State.withLoader_maps (s : State) (v : Loader) : (s.withLoader v).maps = s.maps := rfl
@[simp] theorem State.withLoader_desks (s : State) (v : Loader) : (s.withLoader v).desks = s.desks := rfl
@[simp] theorem State.withLoader_loader (s : State) (v : Loader) : (s.withLoader v).loader = v := rfl
@[simp] theorem State.withLoader_wires (s : State) (v : Loader) : (s.withLoader v).wires = s.wires := rfl

@[simp] theorem State.withLoader_withLoader (s : State) (u v : Loader) : (s.withLoader u).withLoader v = s.withLoader v := rfl
@[simp] theorem State.withLoader_self (s : State) : s.withLoader s.loader = s := rfl

/-! ### State.withWires -/

@[simp] theorem State.withWires_pending (s : State) (v : Wires) : (s.withWires v).pending = s.pending := rfl
@[simp] theorem State.withWires_lines (s : State) (v : Wires) : (s.withWires v).lines = s.lines := rfl
@[simp] theorem State.withWires_ctx (s : State) (v : Wires) : (s.withWires v).ctx = s.ctx := rfl
@[simp] theorem State.withWires_mix (s : State) (v : Wires) : (s.withWires v).mix = s.mix := rfl
@[simp] theorem State.withWires_talk (s : State) (v : Wires) : (s.withWires v).talk = s.talk := rfl
@[simp] theorem State.withWires_paths (s : State) (v : Wires) : (s.withWires v).paths = s.paths := rfl
@[simp] theorem State.withWires_lanes (s : State) (v : Wires) : (s.withWires v).lanes = s.lanes := rfl
@[simp] theorem State.withWires_maps (s : State) (v : Wires) : (s.withWires v).maps = s.maps := rfl
@[simp] theorem State.withWires_desks (s : State) (v : Wires) : (s.withWires v).desks = s.desks := rfl
@[simp] theorem State.withWires_loader (s : State) (v : Wires) : (s.withWires v).loader = s.loader := rfl
@[simp] theorem State.withWires_wires (s : State) (v : Wires) : (s.withWires v).wires = v := rfl

@[simp] theorem State.withWires_withWires (s : State) (u v : Wires) : (s.withWires u).withWires v = s.withWires v := rfl
@[simp] theorem State.withWires_self (s : State) : s.withWires s.wires = s := rfl

end Sys2Proof.Machine
end

