-- ==== Sys2Proof/Laws/Ops.lean ====
section
/-! SUPPORT. One lemma per shared operation that says everything it does, for the operations of Ops, Links and
Owners. Proofs cite these and do not unfold the operations. -/

namespace Sys2Proof.Machine

/-- Two states are equal when they agree on every block, the controllers one by one. -/
theorem State.eq_of_blocks {x y : State} (hp : x.pending = y.pending) (hl : x.lines = y.lines) (hc : x.ctx = y.ctx)
    (hm : x.mix = y.mix) (ht : x.talk = y.talk) (hpa : x.paths = y.paths) (hla : x.lanes = y.lanes)
    (hma : x.maps = y.maps) (hd : ∀ e : Desk, x.desk e = y.desk e) (hlo : x.loader = y.loader)
    (hw : x.wires = y.wires) : x = y := by
  have : x.desks = y.desks := Vector.ext fun i hi => hd ⟨i, hi⟩
  cases x; cases y; simp_all

/-! ### Controllers -/

theorem setDesk_desk (d e : Desk) (c : Controller) (s : State) :
    (setDesk d c s).desk e = if e = d then c else s.desk e := by
  simp only [setDesk, State.desk, State.withDesks_desks, Fin.getElem_fin, Vector.getElem_set]
  by_cases h : e = d
  · simp [h]
  · have : ¬ d.val = e.val := fun hv => h (Fin.ext hv.symm)
    simp [h, this]

@[simp] theorem setDesk_desk_self (d : Desk) (c : Controller) (s : State) : (setDesk d c s).desk d = c := by
  simp [setDesk_desk]

@[simp] theorem setDesk_setDesk (d : Desk) (c c' : Controller) (s : State) :
    setDesk d c' (setDesk d c s) = setDesk d c' s := by
  simp [setDesk]

@[simp] theorem setDesk_self (d : Desk) (s : State) : setDesk d (s.desk d) s = s := by
  simp [setDesk, State.desk]

@[simp] theorem setDesk_pending (d : Desk) (c : Controller) (s : State) : (setDesk d c s).pending = s.pending := rfl
@[simp] theorem setDesk_lines (d : Desk) (c : Controller) (s : State) : (setDesk d c s).lines = s.lines := rfl
@[simp] theorem setDesk_ctx (d : Desk) (c : Controller) (s : State) : (setDesk d c s).ctx = s.ctx := rfl
@[simp] theorem setDesk_mix (d : Desk) (c : Controller) (s : State) : (setDesk d c s).mix = s.mix := rfl
@[simp] theorem setDesk_talk (d : Desk) (c : Controller) (s : State) : (setDesk d c s).talk = s.talk := rfl
@[simp] theorem setDesk_paths (d : Desk) (c : Controller) (s : State) : (setDesk d c s).paths = s.paths := rfl
@[simp] theorem setDesk_lanes (d : Desk) (c : Controller) (s : State) : (setDesk d c s).lanes = s.lanes := rfl
@[simp] theorem setDesk_maps (d : Desk) (c : Controller) (s : State) : (setDesk d c s).maps = s.maps := rfl
@[simp] theorem setDesk_loader (d : Desk) (c : Controller) (s : State) : (setDesk d c s).loader = s.loader := rfl
@[simp] theorem setDesk_wires (d : Desk) (c : Controller) (s : State) : (setDesk d c s).wires = s.wires := rfl

@[simp] theorem offerMany_desk (ns : List Notice) (s : State) (d : Desk) :
    (offerMany ns s).desk d = { s.desk d with offered := (s.desk d).offered ++ ns } := by
  simp [offerMany, State.desk]

@[simp] theorem offerMany_pending (ns : List Notice) (s : State) : (offerMany ns s).pending = s.pending := rfl
@[simp] theorem offerMany_lines (ns : List Notice) (s : State) : (offerMany ns s).lines = s.lines := rfl
@[simp] theorem offerMany_ctx (ns : List Notice) (s : State) : (offerMany ns s).ctx = s.ctx := rfl
@[simp] theorem offerMany_mix (ns : List Notice) (s : State) : (offerMany ns s).mix = s.mix := rfl
@[simp] theorem offerMany_talk (ns : List Notice) (s : State) : (offerMany ns s).talk = s.talk := rfl
@[simp] theorem offerMany_paths (ns : List Notice) (s : State) : (offerMany ns s).paths = s.paths := rfl
@[simp] theorem offerMany_lanes (ns : List Notice) (s : State) : (offerMany ns s).lanes = s.lanes := rfl
@[simp] theorem offerMany_maps (ns : List Notice) (s : State) : (offerMany ns s).maps = s.maps := rfl
@[simp] theorem offerMany_loader (ns : List Notice) (s : State) : (offerMany ns s).loader = s.loader := rfl
@[simp] theorem offerMany_wires (ns : List Notice) (s : State) : (offerMany ns s).wires = s.wires := rfl

theorem offerMany_append (ms ns : List Notice) (s : State) :
    offerMany ns (offerMany ms s) = offerMany (ms ++ ns) s := by
  simp [offerMany, State.withDesks]

theorem offerMany_nil (s : State) : offerMany [] s = s := by
  simp [offerMany]

theorem offerOthers_desk (d e : Desk) (n : Notice) (s : State) :
    (offerOthers d n s).desk e =
      if e = d then s.desk e else { s.desk e with offered := (s.desk e).offered ++ [n] } := by
  by_cases h : e = d <;> simp [offerOthers, offerWhere, State.desk, h]

/-- Who is handed a notice that a test picks controllers for. -/
theorem offerWhere_desk (p : Desk → Controller → Bool) (n : Notice) (s : State) (e : Desk) :
    (offerWhere p n s).desk e =
      if p e (s.desk e) then { s.desk e with offered := (s.desk e).offered ++ [n] } else s.desk e := by
  simp [offerWhere, State.desk]
  rfl

/-! ### Line Table contents -/

@[simp] theorem setRec_queues (n : Line) (r : LineRec) (lt : LineTable) : (setRec n r lt).queues = lt.queues := rfl
@[simp] theorem setRec_fallback (n : Line) (r : LineRec) (lt : LineTable) :
    (setRec n r lt).fallback = lt.fallback := rfl

theorem setRec_rec (n k : Line) (r : LineRec) (lt : LineTable) :
    (setRec n r lt).recs[k] = if k = n then r else lt.recs[k] := by
  simp only [setRec, Fin.getElem_fin, Vector.getElem_set]
  by_cases h : k = n
  · simp [h]
  · have : ¬ n.val = k.val := fun hv => h (Fin.ext hv.symm)
    simp [h, this]

@[simp] theorem dropEntry_recs (n : Line) (lt : LineTable) : (dropEntry n lt).recs = lt.recs := rfl
@[simp] theorem dropEntry_fallback (n : Line) (lt : LineTable) : (dropEntry n lt).fallback = lt.fallback := rfl
@[simp] theorem addEntry_recs (x : Studio) (n : Line) (b : Bool) (lt : LineTable) :
    (addEntry x n b lt).recs = lt.recs := rfl
@[simp] theorem confirmEntry_recs (x : Studio) (n : Line) (lt : LineTable) :
    (confirmEntry x n lt).recs = lt.recs := rfl
@[simp] theorem promoteEntry_recs (x : Studio) (n : Line) (lt : LineTable) :
    (promoteEntry x n lt).recs = lt.recs := rfl

@[simp] theorem freeLines_fallback (gone : Line → Bool) (lt : LineTable) :
    (freeLines gone lt).fallback = lt.fallback := rfl

theorem freeLines_rec (gone : Line → Bool) (lt : LineTable) (k : Line) :
    (freeLines gone lt).recs[k] =
      if gone k then { lt.recs[k] with state := .free, label := [] } else lt.recs[k] := by
  simp [freeLines]

theorem freeLine_rec (n k : Line) (lt : LineTable) :
    (freeLine n lt).recs[k] = if k = n then { lt.recs[n] with state := .free, label := [] } else lt.recs[k] :=
  setRec_rec n k _ (dropEntry n lt)

/-- The freeing of one line alone. -/
theorem freeLines_eq_freeLine (n : Line) (lt : LineTable) : freeLines (fun k => k == n) lt = freeLine n lt := by
  have hr : (freeLines (fun k => k == n) lt).recs = (freeLine n lt).recs := Vector.ext fun i hi => by
    have h := (freeLines_rec (fun k => k == n) lt ⟨i, hi⟩).trans
      ((by rw [freeLine_rec]; by_cases h : (⟨i, hi⟩ : Line) = n <;> simp [h]) : _ = (freeLine n lt).recs[(⟨i, hi⟩ : Line)])
    exact h
  calc freeLines (fun k => k == n) lt
      = { freeLine n lt with recs := (freeLines (fun k => k == n) lt).recs } := rfl
    _ = freeLine n lt := by rw [hr]

/-! ### What a step of the Line Table hands on -/

@[simp] theorem commit_lines (new : LineTable) (s : State) : (commit new s).lines = new := rfl
@[simp] theorem commit_pending (new : LineTable) (s : State) : (commit new s).pending = s.pending := rfl
@[simp] theorem commit_ctx (new : LineTable) (s : State) : (commit new s).ctx = s.ctx := rfl
@[simp] theorem commit_mix (new : LineTable) (s : State) : (commit new s).mix = s.mix := rfl
@[simp] theorem commit_talk (new : LineTable) (s : State) : (commit new s).talk = s.talk := rfl
@[simp] theorem commit_paths (new : LineTable) (s : State) : (commit new s).paths = s.paths := rfl
@[simp] theorem commit_lanes (new : LineTable) (s : State) : (commit new s).lanes = s.lanes := rfl
@[simp] theorem commit_maps (new : LineTable) (s : State) : (commit new s).maps = s.maps := rfl
@[simp] theorem commit_loader (new : LineTable) (s : State) : (commit new s).loader = s.loader := rfl

@[simp] theorem commit_desk (new : LineTable) (s : State) (d : Desk) :
    (commit new s).desk d = { s.desk d with
      offered := (s.desk d).offered ++ (lineNotices s.lines new ++ queueNotices s.lines new) } := by
  simp [commit, offerMany, State.desk]

theorem commit_wires (new : LineTable) (s : State) :
    (commit new s).wires = { s.wires with
      reports := s.wires.reports ++ stateReports s.lines new
      restarts := s.wires.restarts ++ freeMoves s.lines new } := rfl

/-! ### The check order -/

theorem lineCommand_noLine {op : Op} {snd : Sender} {line : Byte} {s : State} {body : Line → Decision}
    (h : lineOfByte line = none) : lineCommand op snd line s body = refuse .noLine s := by
  simp [lineCommand, h]

theorem lineCommand_refused {op : Op} {snd : Sender} {line : Byte} {s : State} {body : Line → Decision} {n : Line}
    {r : Result} (h : lineOfByte line = some n) (hr : refusalAt op snd n s = some r) :
    lineCommand op snd line s body = refuse r s := by
  simp [lineCommand, h, hr]

theorem lineCommand_passes {op : Op} {snd : Sender} {line : Byte} {s : State} {body : Line → Decision} {n : Line}
    (h : lineOfByte line = some n) (hr : refusalAt op snd n s = none) :
    lineCommand op snd line s body = body n := by
  simp [lineCommand, h, hr]

/-- A line command ends in a refusal that changes nothing, or in its own body on a line that passed steps 1 to
5. -/
theorem lineCommand_cases (op : Op) (snd : Sender) (line : Byte) (s : State) (body : Line → Decision) :
    (∃ r, lineCommand op snd line s body = refuse r s) ∨
    (∃ n, lineOfByte line = some n ∧ refusalAt op snd n s = none ∧ lineCommand op snd line s body = body n) := by
  cases h : lineOfByte line with
  | none => exact .inl ⟨_, lineCommand_noLine h⟩
  | some n =>
    cases hr : refusalAt op snd n s with
    | none => exact .inr ⟨n, rfl, hr, lineCommand_passes h hr⟩
    | some r => exact .inl ⟨r, lineCommand_refused h hr⟩

/-! ### Replies and handed commands -/

@[simp] theorem fillPlace_length (o : Owner) (r : Reply) (l : List Place) : (fillPlace o r l).length = l.length := by
  induction l with
  | nil => rfl
  | cons p l ih =>
    cases p with
    | waiting o' => by_cases h : o' = o <;> simp [fillPlace, h, ih]
    | ready r' => simp [fillPlace, ih]

/-- The owner's decision of the first command it was handed, as its effect on the state. -/
theorem deskCommand_decided {op : Op} {d : Desk} {line : Byte} {args : List Byte} {s : State}
    (h : firstFor (ownerOf op) (s.desk d).handed = some (.command op line args)) :
    deskCommand op .decided d line args s = ownerDecides op d line args s := by
  simp [deskCommand, h]

/-- A command its owner was not handed first has no effect. -/
theorem deskCommand_not_handed {op : Op} {d : Desk} {line : Byte} {args : List Byte} {s : State}
    (h : firstFor (ownerOf op) (s.desk d).handed ≠ some (.command op line args)) :
    deskCommand op .decided d line args s = s := by
  simp [deskCommand, h]

/-! ### Rows inside a block-end step -/

/-- The rows of what comes about inside the Path Monitor's block-end step change nothing, or are that step. -/
theorem pathParts_cases (n : Line) (s : State) :
    (pendingModeStep n s = s ∨ pendingModeStep n s = pathsBlockEnd s) ∧
    (failoverStep n s = s ∨ failoverStep n s = pathsBlockEnd s) ∧
    (revertStep n s = s ∨ revertStep n s = pathsBlockEnd s) := by
  refine ⟨?_, ?_, ?_⟩
  · unfold pendingModeStep; split <;> simp
  · unfold failoverStep; split <;> simp
  · unfold revertStep; split <;> simp

/-- The row of a transition changes nothing, or is the Context Store's block-end step. -/
theorem baseLevelStep_cases (x : Studio) (s : State) : baseLevelStep x s = s ∨ baseLevelStep x s = feedsBlockEnd s := by
  unfold baseLevelStep; split <;> simp

/-! ### The base level -/

/-- A base level moved to the given one: no change at that level already, otherwise the level and its notice. -/
theorem moveBase_cases (x : Studio) (level : BaseLevel) (s : State) :
    (level = (s.ctx.studios.get x).base ∧ moveBase x level s = s) ∨
    (level ≠ (s.ctx.studios.get x).base ∧
      moveBase x level s = offerAll (.base x level) (setStudio x { s.ctx.studios.get x with base := level } s)) := by
  by_cases h : level = (s.ctx.studios.get x).base
  · exact .inl ⟨h, if_pos h⟩
  · exact .inr ⟨h, if_neg h⟩

/-! ### The Start-up Loader -/

/-- What the end of a load does: the result, RUNNING, and the LOAD notice to the desks it would enter now. -/
theorem endLoad_cases (r : LoadResult) (s : State) :
    (endLoad r s).loader = ⟨.running, some r⟩ ∧
    ∀ e : Desk, (endLoad r s).desk e = if wouldEnter (.load r) (s.desk e) then
      { s.desk e with offered := (s.desk e).offered ++ [.load r] } else s.desk e :=
  ⟨rfl, fun e => offerWhere_desk _ _ _ e⟩

/-- The silence of the memory leaves a Loader that runs as it is, and ends every load. -/
theorem memorySilent_cases (s : State) :
    (s.loader.stage = .running ∧ memorySilent s = s) ∨ ∃ r, memorySilent s = endLoad r s := by
  unfold memorySilent
  split
  · exact .inl ⟨‹_›, rfl⟩
  · exact .inr ⟨_, rfl⟩
  · exact .inr ⟨_, rfl⟩

/-! ### Numbers -/

theorem riseTo_le {limit n : Nat} (h : n ≤ limit) : riseTo limit n ≤ limit := by
  unfold riseTo; split <;> omega

theorem clampTo_bounds {lo hi : Nat} (h : lo ≤ hi) (n : Nat) : lo ≤ clampTo lo hi n ∧ clampTo lo hi n ≤ hi := by
  unfold clampTo; split
  · omega
  · split <;> omega

end Sys2Proof.Machine
end

