-- ==== Sys2Proof/Laws/Words.lean ====
section
/-! SUPPORT. The words the statements are written in agree with the operations of the machine, one lemma per word, so
that a proof rewrites with them and unfolds neither side. -/

namespace Sys2Proof.Machine

open Sys2Proof.Claims

/-! ### What a step of the Line Table hands on -/

/-- What a notice shows of a state has the state's four fields (R17). -/
theorem fields_shown (a : LineState) : fields (shown a) = fields a := by
  cases a <;> rfl

/-- Two states show the same in a LINE-STATE notice when their four fields agree (R17). -/
theorem shown_eq_iff_fields (a b : LineState) : shown a = shown b ↔ fields a = fields b := by
  constructor
  · intro h
    rw [← fields_shown a, ← fields_shown b, h]
  · intro h
    have h1 : stateByte a = stateByte b := congrArg (·.1) h
    have h2 : studioOf a = studioOf b := congrArg (·.2.1) h
    have h3 : phaseOf a = phaseOf b := congrArg (·.2.2.1) h
    cases a <;> cases b <;> simp_all [shown, stateByte, studioOf, phaseOf]

theorem shown_bne_fields (a b : LineState) : (shown a != shown b) = (fields a != fields b) := by
  by_cases h : shown a = shown b
  · simp [h, (shown_eq_iff_fields a b).1 h]
  · have := mt (shown_eq_iff_fields a b).2 h
    simp [bne, beq_eq_false_iff_ne.2 h, beq_eq_false_iff_ne.2 this]

theorem commit_eq_lineStep (lt : LineTable) (s : State) : commit lt s = lineStep lt s := by
  simp [commit, lineStep, offerMany, lineNotices, queueNotices, stateReports, freeMoves, lineNews, linesWhere,
    shown_bne_fields, State.withLines, State.withDesks, State.withWires]

theorem put_eq (n : Line) (r : LineRec) (lt : LineTable) : setRec n r lt = put n r lt.queues lt := rfl

theorem put_eq_dropEntry (n : Line) (r : LineRec) (lt : LineTable) :
    setRec n r (dropEntry n lt) = put n r (without n lt.queues) lt := rfl

/-- A leave as the statements write it (R63). -/
theorem startLeave_eq (n : Line) (t : Dest) (lt : LineTable) :
    startLeave n t lt = put n (leaving lt.recs[n] t) lt.queues lt := by
  unfold startLeave
  generalize lt.recs[n] = r
  obtain ⟨st, _, _, _, _, _⟩ := r
  cases st <;> rfl

/-! ### Replies and rights -/

theorem ownerDecides_eq (op : Op) (d : Desk) (line : Byte) (args : List Byte) (s : State) :
    ownerDecides op d line args s =
      let r := decideOp op (.desk d) line args (takeHanded (ownerOf op) d s)
      fillReply (ownerOf op) d ⟨opCode op, line, r.result, r.clamped, r.data⟩ r.state := rfl

theorem hasRights_eq (fallback : Bool) (d : Desk) (r : LineRec) : hasRights fallback d r = rightsOf fallback d r := by
  unfold hasRights rightsOf
  cases r.state with
  | screen p =>
    cases p with
    | steady => rfl
    | leaving t => cases t <;> rfl
  | _ => rfl

theorem occupancy_eq (lt : LineTable) (g : Group) : occupancy lt g = occupied lt g := rfl

theorem talkRights_eq (s : State) (d : Desk) (n : Line) : talkRights s d n = mayTalk s d n := by
  simp only [talkRights, talkRightsWith, mayTalk, viewLive, talkFallback, hasRights_eq]
  have e : ∀ v : LinkState, (!(v == .live)) = (v == .lost) := by
    intro v
    cases v <;> rfl
  rw [e]

theorem holderOf_eq (s : State) (n : Line) : holderOf s n = holder s n := rfl

/-! ### Numbers of replies and notices -/

theorem resultCode_eq (r : Result) : resultCode r = resultNumber r := by cases r <;> rfl

theorem kindCode_eq (n : Notice) : kindCode n = kindNumber n := by cases n <;> rfl

theorem studioByte_eq (x : Studio) : studioByte x = BitVec.ofNat 8 (studioNumber x) := by cases x <;> rfl

theorem destByte_eq (t : Dest) : destByte (some t) = BitVec.ofNat 8 (destNumber t) := by
  cases t with
  | hold => rfl
  | queued x => cases x <;> rfl
  | air x => cases x <;> rfl
  | priv x => cases x <;> rfl
  | clearing => rfl

theorem stateBytes_eq (st : LineState) : stateBytes st = (stateNumbers st).map (fun v => BitVec.ofNat 8 v) := by
  cases st with
  | screen p => cases p with
    | steady => rfl
    | leaving t => simp [stateBytes, stateNumbers, stateByte, studioOf, phaseOf, destOf, studioOptByte, phaseByte,
        destByte_eq]
  | air x p => cases p with
    | steady => cases x <;> rfl
    | leaving t => simp [stateBytes, stateNumbers, stateByte, studioOf, phaseOf, destOf, studioOptByte, phaseByte,
        destByte_eq, studioByte_eq]
  | priv x p => cases p with
    | steady => cases x <;> rfl
    | leaving t => simp [stateBytes, stateNumbers, stateByte, studioOf, phaseOf, destOf, studioOptByte, phaseByte,
        destByte_eq, studioByte_eq]
  | queued x => cases x <;> rfl
  | _ => rfl

theorem baseByte_eq (l : BaseLevel) : baseByte l = BitVec.ofNat 8 (baseNumber l) := by cases l <;> rfl

theorem judgementByte_eq (j : Judgement) : judgementByte j = BitVec.ofNat 8 (judgementNumber j) := by
  cases j <;> rfl

theorem causeByte_eq (c : TalkCause) : causeByte c = BitVec.ofNat 8 (causeNumber c) := by cases c <;> rfl

theorem boolByte_eq (b : Bool) : boolByte b = BitVec.ofNat 8 (if b then 1 else 0) := by cases b <;> rfl

theorem deskOptByte_eq (d : Option Desk) : deskOptByte d = BitVec.ofNat 8 (d.elim 255 (fun e => e.val)) := by
  cases d <;> rfl

theorem queueBytes_eq (q : List Entry) : queueBytes q =
    (q.length :: q.flatMap (fun e => [e.line.val + 1, if e.arriving then 1 else 0])).map
      (fun v => BitVec.ofNat 8 v) := by
  simp [queueBytes, byteOf, List.map_flatMap, lineByte, lineNumber, boolByte_eq]

/-- The data bytes of every kind of notice (R170). -/
theorem noticeData_eq (n : Notice) : noticeData n = noticeSays n := by
  cases n with
  | lineState n st => simp [noticeData, noticeSays, noticeNumbers, stateBytes_eq, lineByte, lineNumber, byteOf]
  | queue x q => simp [noticeData, noticeSays, noticeNumbers, studioByte_eq, queueBytes_eq]
  | path n active first second fault =>
    cases active <;> cases fault <;>
      simp [noticeData, noticeSays, noticeNumbers, judgementByte_eq, lineByte, lineNumber, byteOf, sideByte, boolByte]
  | base x level => simp [noticeData, noticeSays, noticeNumbers, studioByte_eq, baseByte_eq]
  | talk n now before cause =>
    simp [noticeData, noticeSays, noticeNumbers, deskOptByte_eq, causeByte_eq, lineByte, lineNumber, byteOf]
  | clip o count => simp [noticeData, noticeSays, noticeNumbers, bytes2, byteOf]
  | link d st => cases st <;> simp [noticeData, noticeSays, noticeNumbers, deskByte, byteOf, linkByte]
  | clock st ref => cases st <;> simp [noticeData, noticeSays, noticeNumbers, byteOf, clockByte]
  | load r => cases r <;> simp [noticeData, noticeSays, noticeNumbers, loadBytes, bytes2, byteOf]
  | hello running clock a b busy =>
    cases running <;> cases clock <;>
      simp [noticeData, noticeSays, noticeNumbers, boolByte, clockByte, baseByte_eq, baseNumber, byteOf]
  | lostNotices count => simp [noticeData, noticeSays, noticeNumbers, byteOf]

/-! ### Numbers of the mix -/

theorem rampStep_eq (target current : Nat) : rampStep target current = rampToward target current := by
  unfold rampStep rampToward Config.rampStep
  split <;> split <;> (try split) <;> omega

theorem roundShift_eq (n : Nat) (v : Int) : roundShift n v = rounded n v := by
  have h : ((2 ^ n : Nat) : Int) = 2 ^ n := by push_cast; rfl
  have h' : ((2 ^ (n - 1) : Nat) : Int) = 2 ^ (n - 1) := by push_cast; rfl
  unfold roundShift rounded
  rw [Int.fdiv_eq_ediv_of_nonneg _ (by positivity), h, h']

theorem saturate_eq (v : Int) : saturate v = inRange v := by
  unfold saturate inRange
  split
  · omega
  · split <;> omega

theorem clipped_eq (v : Int) : clipped v = clips v := by
  have : (saturate v ≠ v) ↔ (v < -8388608 ∨ 8388607 < v) := by
    unfold saturate
    split
    · omega
    · split <;> omega
  by_cases h : saturate v = v
  · have h' := mt this.2 (by simpa using h)
    simp [clipped, clips, h, h']
  · have h' := this.1 h
    simp [clipped, clips, h']
    exact h

theorem roleSample_eq (s : State) (role : Fin 44) : roleSample s role = sampleOf s role := by
  unfold roleSample sampleOf
  cases s.maps.input[role] <;> simp

theorem lineSample_eq (s : State) (n : Line) : lineSample s n = lineInput s n := by
  unfold lineSample lineInput equipped activeRole pathRole
  cases (s.paths[n]).active <;> simp [roleSample_eq]

theorem members_eq (lt : LineTable) (g : Group) : members lt g = groupMembers lt g := rfl

/-! ### The end of a load -/

theorem readWait_eq (r : Reading) (s : State) : readWait r s = blocksSince r.since s := by
  simp only [readWait, blocksSince, BitVec.toNat_sub]
  congr 1
  have := r.since.isLt
  omega

theorem endLoad_eq (r : LoadResult) (s : State) : endLoad r s = loadEnded r s := by
  have h : ∀ c : Controller, wouldEnter (.load r) c = true ↔ c.link = .live ∧ c.mask.getLsbD 8 = true := by
    intro c
    simp [wouldEnter, maskBit, kindCode]
  simp [endLoad, offerWhere, loadEnded, h, State.withDesks, State.withLoader]

theorem losesPrimary_eq (roles : List (Fin 44)) (s : State) (n : Line) :
    losesPrimary roles s n = decide (primaryRole n ∈ roles ∧ s.maps.input[primaryRole n] = none ∧
      s.lines.recs[n].state ≠ .free) := by
  have hf : ∀ st : LineState, (!isFree st) = decide (st ≠ .free) := by
    intro st
    cases st <;> simp [isFree]
  have hn : ∀ o : Option Slot, o.isNone = decide (o = none) := by
    intro o
    cases o <;> simp
  simp [losesPrimary, hn, equipped, State.line, hf, Bool.decide_and, Bool.and_assoc]

/-! ### Feeds and paths -/

theorem judgeFeed_eq (s : State) (role : Fin 44) : judgeFeed s role = roleGood s role := by
  unfold judgeFeed roleGood slotGood laneLocked
  cases s.maps.input[role] <;> rfl

theorem moveFeed_eq (good : Bool) (f : FeedRec) : moveFeed good f = feedAfter good f := rfl

theorem nextBase_eq (c : StudioCtx) : nextBase c = levelAfter c := rfl

/-- The level a block end comes to, as the statements write it (R104). -/
theorem levelAtEnd_eq (x : Studio) (s : State) :
    levelAtEnd x s = levelAfter { s.ctx.studios.get x with
      stem := feedAfter (roleGood s (stemRole x)) (s.ctx.studios.get x).stem
      safe := feedAfter (roleGood s (safeRole x)) (s.ctx.studios.get x).safe } := by
  simp only [levelAtEnd, judgeStudio, judgeFeed_eq, moveFeed_eq, nextBase_eq]

theorem riseTo_eq (limit n : Nat) : riseTo limit n = raised limit n := rfl

/-- A path's judgement as the statements write it, by the role of the path (R133). -/
theorem judgePath_eq (s : State) (n : Line) (side : PathSide) : judgePath s n side = judged s n (pathRole n side) := by
  unfold judgePath judged roleGood slotGood laneLocked
  cases h : equipped s n <;> cases h' : s.maps.input[pathRole n side] <;> simp_all [Config.framesPerBlock]

theorem pathConnected_eq (s : State) (n : Line) (side : PathSide) (held : Bool) :
    pathConnected s n side held = connectedAfter s n (pathRole n side) held := by
  unfold pathConnected connectedAfter laneLocked slotConnected
  cases h : equipped s n <;> cases h' : s.maps.input[pathRole n side] <;> simp_all [Config.framesPerBlock]

/-- A path moved by a block end, as the statements write it (R133 to R135). -/
theorem moveRuns_eq (j : Judgement) (b : Bool) (r : PathRec) :
    { moveRuns j r with connected := b } = pathAfter j b r.goodRun r.badRun := by
  cases j <;> rfl

/-- A line's paths as the tests of R136 find them, as the statements write them. -/
theorem judgedLine_eq (n : Line) (s : State) :
    let q := applyMode s.paths[n]
    judgedLine n s = { q with
      primary := pathAfter (judged s n (primaryRole n)) (connectedAfter s n (primaryRole n) q.primary.connected)
        q.primary.goodRun q.primary.badRun
      alternate := pathAfter (judged s n (alternateRole n))
        (connectedAfter s n (alternateRole n) q.alternate.connected) q.alternate.goodRun q.alternate.badRun } := by
  simp only [judgedLine, judgePaths, moveRuns_eq, judgePath_eq, pathConnected_eq]
  rfl

end Sys2Proof.Machine
end

