-- ==== Sys2Proof/WellFormed.lean ====
section
/-! DEFINITION. Well-formed commands: those a message of this part can carry and a moment of it can show. -/

namespace Sys2Proof

/-- A message carries at most 58 argument bytes, since its length N is at most 60 (R159). -/
def argsFit (args : List Byte) : Bool := args.length ≤ 58

/-- An owner is handed only commands whose argument count passed the controller's check (R162). -/
def momentFits (m : Moment) (op : Op) (args : List Byte) : Bool :=
  argsFit args && (m != .decided || argCountFits op args.length)

/-- The command is one that the block can be given. -/
def Instr.wellFormed : Instr → Bool
  | .nop _ _ args | .linkStatus _ _ args | .setMask _ _ args => argsFit args
  | .answer m _ _ args => momentFits m .answer args
  | .hold m _ _ args => momentFits m .hold args
  | .queue m _ _ args => momentFits m .queue args
  | .recall m _ _ args => momentFits m .recall args
  | .promote m _ _ args => momentFits m .promote args
  | .give m _ _ args => momentFits m .give args
  | .take m _ _ args => momentFits m .take args
  | .takeNext m _ _ args => momentFits m .takeNext args
  | .privateTalk m _ _ args => momentFits m .privateTalk args
  | .park m _ _ args => momentFits m .park args
  | .drop m _ _ args => momentFits m .drop args
  | .talkOn m _ _ args => momentFits m .talkOn args
  | .talkOff m _ _ args => momentFits m .talkOff args
  | .setLevel m _ _ args => momentFits m .setLevel args
  | .setReturn m _ _ args => momentFits m .setReturn args
  | .setLabel m _ _ args => momentFits m .setLabel args
  | .setHome m _ _ args => momentFits m .setHome args
  | .forcePath m _ _ args => momentFits m .forcePath args
  | .setConf m _ _ args => momentFits m .setConf args
  | .setCtxGain m _ _ args => momentFits m .setCtxGain args
  | .setDuck m _ _ args => momentFits m .setDuck args
  | .setTalkGain m _ _ args => momentFits m .setTalkGain args
  | .readLine m _ _ args => momentFits m .readLine args
  | .readStudio m _ _ args => momentFits m .readStudio args
  | .readMeters m _ _ args => momentFits m .readMeters args
  | .mapInput m _ _ args => momentFits m .mapInput args
  | .mapOutput m _ _ args => momentFits m .mapOutput args
  | .setPathTiming m _ _ args => momentFits m .setPathTiming args
  | .setStemTiming m _ _ args => momentFits m .setStemTiming args
  | .setClock m _ _ args => momentFits m .setClock args
  | .setTalkTimeout m _ _ args => momentFits m .setTalkTimeout args
  | .loadConfig m _ _ args => momentFits m .loadConfig args
  | .unknownCommand _ code _ args => argsFit args && (opOfCode code).isNone
  | .loaderHeader b0 b1 b2 b3 => b0.isSome || b1.isSome || b2.isSome || b3.isSome
  | .primaryRoleLoss roles => !roles.isEmpty
  | .loaderMessage bytes => 1 ≤ bytes.length && bytes.length ≤ 63
  | .reset _ _ _ | .badMessage _ | .messageGapTimeout _ | .commandDiscarded _ | .linkLost _ | .livenessBlockEnd _
  | .linkLiveAtLineTable _ | .linkLostAtLineTable _ | .linkLiveAtTalkArbiter _ | .linkLostAtTalkArbiter _
  | .sendReply _ | .sendNotice _ | .noticeOffer _ | .partyPresent _ | .partyGone _ | .fadeComplete _ _
  | .clearingCountTick | .clearingTimeout _ | .stateChangedReport _ | .pathRestart _ _
  | .talkTimeout | .laneInputFrame _ | .frameComputation | .clipQuietTick | .pendingClipNotice _ | .blockStart
  | .inputMapApply | .outputMapApply | .referenceLaneChange | .laneBlockEnd | .clockRelock | .pathBlockEnd
  | .pendingModeApply _ | .failover _ | .revert _ | .feedJudgement | .baseLevelTransition _
  | .memoryTimeout | .byteReceived _ _ | .messageSent _ => true

end Sys2Proof
end

