-- ==== Sys2Proof/Tests/Slice0.lean ====
section
/-! SUPPORT. Tests on small states, with the expected values taken from the spec's own tables and worked cases, and
one witness for each statement that has hypotheses. -/

namespace Sys2Proof.Tests

open Sys2Proof.Machine Sys2Proof.Safety Sys2Proof.Claims

set_option Elab.async false

/-! ### Small states -/

/-- The state a command leaves. -/
def after (c : Instr) (s : State) : State :=
  match exec c s with
  | .next t => t
  | _ => s

/-- Line states of the small part, by place: 1 WAITING, 2 SCREEN, 3 HOLD, 4 QUEUED A, 5 AIR A, 6 PRIVATE A, 7 CLEARING,
8 AIR A leaving for PRIVATE A, 9 SCREEN leaving for queue A, the rest FREE. -/
def stateAt (n : Line) : LineState :=
  match n.val with
  | 0 => .waiting
  | 1 => .screen .steady
  | 2 => .hold
  | 3 => .queued .a
  | 4 => .air .a .steady
  | 5 => .priv .a .steady
  | 6 => .clearing 3
  | 7 => .air .a (.leaving (.priv .a))
  | 8 => .screen (.leaving (.queued .a))
  | _ => .free

/-- A RUNNING part with lines 1 to 15 equipped on lane 0, every link LIVE and every strap high. Line 9 stands in queue A
behind line 4, arriving. -/
def busy : State :=
  { State.reset with
    lines := ⟨Vector.ofFn fun n => { LineRec.reset with state := stateAt n }, ⟨[⟨3, false⟩, ⟨8, true⟩], []⟩, false⟩
    maps := { SlotMap.reset with
      input := Vector.ofFn fun r => if r.val < 15 then some ⟨0, Fin.ofNat 16 r.val⟩ else none }
    talk := { TalkArbiter.reset with view := Vector.ofFn fun _ => .live }
    desks := Vector.ofFn fun _ => { Controller.reset true with link := .live }
    loader := ⟨.running, some .ok⟩ }

/-- Desk d's controller has handed the command on, and its place waits. -/
def handed (d : Desk) (op : Op) (line : Byte) (args : List Byte) (s : State) : State :=
  setDesk d { s.desk d with
    handed := [(ownerOf op, .command op line args)]
    replies := [.waiting (ownerOf op)] } s

/-- The busy part with a command handed on. -/
def ask (d : Desk) (op : Op) (line : Byte) (args : List Byte) : State := handed d op line args busy

/-- The busy part after its owner has decided the command. -/
def told (d : Desk) (op : Op) (line : Byte) (args : List Byte) : State :=
  after (commandOf op .decided d line args) (ask d op line args)

/-- The result and data in desk d's head reply place. -/
def answer (d : Desk) (s : State) : Option (Result × List Byte) :=
  match (s.desk d).replies with
  | .ready r :: _ => some (r.result, r.data)
  | _ => none

/-- The state of line n. -/
def stateOf (s : State) (n : Line) : LineState := (s.line n).state

/-! ### Well-formedness refuses what no message or moment can carry -/

theorem test_wf_accepts_a_take : (Instr.take .whole 0 7 []).wellFormed = true := by decide
theorem test_wf_refuses_59_arguments :
    (Instr.setLabel .arrives 2 1 (List.replicate 59 0x41)).wellFormed = false := by decide
theorem test_wf_refuses_59_arguments_of_nop :
    (Instr.nop 2 1 (List.replicate 59 0)).wellFormed = false := by decide
theorem test_wf_refuses_decided_with_wrong_count : (Instr.queue .decided 2 1 []).wellFormed = false := by decide
theorem test_wf_refuses_unknown_with_a_catalogue_code :
    (Instr.unknownCommand 0 0x16 7 []).wellFormed = false := by decide
theorem test_wf_refuses_an_image_message_of_64_bytes :
    (Instr.loaderMessage (List.replicate 64 0xA5)).wellFormed = false := by decide
theorem test_wf_refuses_a_read_of_no_bytes :
    (Instr.loaderMessage []).wellFormed = false ∧ (Instr.loaderHeader none none none none).wellFormed = false := by decide
theorem test_wf_refuses_a_map_event_of_no_role : (Instr.primaryRoleLoss []).wellFormed = false := by decide

/-! ### Messages read from their bytes (section 9.5) -/

/-- TAKE of line 7 in the compact form: byte 2 is code 0, bit 4 zero, line 6; byte 3 its inverse. -/
theorem test_compact_take_line_7 : feedBytes .hunt [0xC3, 0x06, 0xF9] = (.hunt, .good 0x16 7 []) := by decide
/-- TAKE-NEXT in the compact form: code 7. Its line stands for 0. -/
theorem test_compact_take_next : feedBytes .hunt [0xC3, 0xE0, 0x1F] = (.hunt, .good 0x17 0 []) := by decide
/-- Bit 4 of byte 2 set. -/
theorem test_compact_bit_4_is_bad : feedBytes .hunt [0xC3, 0x16, 0xE9] = (.hunt, .bad) := by decide
/-- TAKE of line 7 in the full form: 2 + 0x16 + 7 + 0xE1 is 256. -/
theorem test_full_take_line_7 : feedBytes .hunt [0xA5, 2, 0x16, 7, 0xE1] = (.hunt, .good 0x16 7 []) := by decide
/-- SET-LEVEL 16384 on line 3: 4 + 0x20 + 3 + 0x40 + 0 + 0x99 is 256. -/
theorem test_full_set_level :
    feedBytes .hunt [0xA5, 4, 0x20, 3, 0x40, 0, 0x99] = (.hunt, .good 0x20 3 [0x40, 0]) := by decide
theorem test_full_length_61_is_bad : feedBytes .hunt [0xA5, 61] = (.hunt, .bad) := by decide
theorem test_other_bytes_are_discarded_in_hunt : feedByte .hunt 0x55 = (.hunt, .collecting) := by decide

/-! ### Line commands -/

theorem test_answer_joins_screen : stateOf (told 2 .answer 1 []) 0 = .screen .steady := by decide
theorem test_answer_on_queued_is_wrong_state : answer 2 (told 2 .answer 4 []) = some (.wrongState, []) := by decide
theorem test_hold_starts_a_leave : stateOf (told 2 .hold 2 []) 1 = .screen (.leaving .hold) := by decide
theorem test_queue_from_screen_arrives :
    (told 2 .queue 2 [1]).lines.queues.b = [⟨1, true⟩] ∧ answer 2 (told 2 .queue 2 [1]) = some (.done, [1]) := by
  decide
theorem test_queue_own_queue_again_goes_last :
    (told 2 .queue 4 [0]).lines.queues.a = [⟨8, true⟩, ⟨3, false⟩] := by decide
theorem test_recall_leaves_the_queue :
    stateOf (told 2 .recall 4 []) 3 = .screen .steady ∧ (told 2 .recall 4 []).lines.queues.a = [⟨8, true⟩] := by decide
theorem test_promote_arriving_line_is_busy : answer 0 (told 0 .promote 9 []) = some (.busy, []) := by decide
theorem test_promote_head_answers_1 : answer 0 (told 0 .promote 4 []) = some (.done, [1]) := by decide
theorem test_give_to_the_other_queue :
    stateOf (told 0 .give 4 [1]) 3 = .queued .b ∧ (told 0 .give 4 [1]).lines.queues.b = [⟨3, false⟩] := by decide
theorem test_give_from_the_screen_desk_is_wrong_state :
    answer 2 (told 2 .give 4 [1]) = some (.wrongState, []) := by decide
theorem test_take_from_the_queue :
    stateOf (told 0 .take 4 []) 3 = .air .a .steady ∧ answer 0 (told 0 .take 4 []) = some (.done, [4]) := by decide
theorem test_take_cancels_a_leave :
    stateOf (told 0 .take 8 []) 7 = .air .a .steady ∧ (told 0 .take 8 []).line 7 = { LineRec.reset with
      state := .air .a .steady } := by decide
theorem test_private_of_another_studio_is_not_yours :
    answer 1 (told 1 .privateTalk 4 []) = some (.notYours, []) := by decide
theorem test_take_next_takes_the_head : answer 0 (told 0 .takeNext 0 []) = some (.done, [4]) := by decide
theorem test_take_next_on_an_empty_queue : answer 1 (told 1 .takeNext 0 []) = some (.empty, []) := by decide
theorem test_private_from_hold : stateOf (told 0 .privateTalk 3 []) 2 = .priv .a .steady := by decide
theorem test_park_starts_a_leave_with_the_tag :
    stateOf (told 0 .park 5 []) 4 = .air .a (.leaving .hold) ∧ ((told 0 .park 5 []).line 4).tag = 1 := by decide
theorem test_drop_retargets_and_leaves_the_queue :
    stateOf (told 2 .drop 9 []) 8 = .screen (.leaving .clearing) ∧
    (told 2 .drop 9 []).lines.queues.a = [⟨3, false⟩] ∧ ((told 2 .drop 9 []).line 8).tag = 0 := by decide
theorem test_drop_on_clearing_is_wrong_state : answer 2 (told 2 .drop 7 []) = some (.wrongState, []) := by decide
theorem test_set_level_is_clamped :
    ((told 2 .setLevel 1 [0x80, 0]).line 0).level = 32767 ∧
    answer 2 (told 2 .setLevel 1 [0x80, 0]) = some (.done, [0x7F, 0xFF]) := by decide
theorem test_set_return_stores : ((told 2 .setReturn 1 [0x40, 1]).line 0).ret = 16385 := by decide
theorem test_set_label_truncates :
    answer 2 (told 2 .setLabel 1 (List.replicate 25 0x41)) = some (.done, [24]) := by decide
theorem test_set_label_refuses_0x7F : answer 2 (told 2 .setLabel 1 [0x7F]) = some (.badValue, []) := by decide
theorem test_set_home_on_hold : ((told 2 .setHome 3 [1]).line 2).home = .b := by decide
theorem test_line_16_is_not_equipped : answer 2 (told 2 .setReturn 16 [0, 0]) = some (.notEquipped, []) := by decide
theorem test_line_0_is_no_line : answer 2 (told 2 .hold 0 []) = some (.noLine, []) := by decide
theorem test_line_10_has_no_party : answer 0 (told 0 .park 10 []) = some (.noParty, []) := by decide
theorem test_read_line_of_a_queued_line :
    answer 0 (told 0 .readLine 4 []) = some (.done,
      [4, 0, 255, 255, 1, 255, 255, 0, 1, 0x40, 0, 0x40, 0, 255, 0, 0, 0]) := by decide

/-! ### Talk, contexts and paths -/

/-- The busy part with desk 2 holding line 4's talk. -/
def screenerTalks : State := withHold 3 (some ⟨2, 0⟩) busy

theorem test_talk_on_is_granted :
    answer 0 (told 0 .talkOn 4 []) = some (.done, [0]) ∧ holder (told 0 .talkOn 4 []) 3 = some 0 := by decide
theorem test_studio_preempts_the_screener :
    holder (after (.talkOn .decided 0 4 []) (handed 0 .talkOn 4 [] screenerTalks)) 3 = some 0 := by decide
theorem test_talk_off_without_rights_is_not_yours : answer 1 (told 1 .talkOff 4 []) = some (.notYours, []) := by decide
theorem test_link_lost_releases_the_holds :
    holder (after (.linkLostAtTalkArbiter 2) screenerTalks) 3 = none := by decide +kernel
theorem test_report_releases_a_hold_without_rights :
    holder (after (.stateChangedReport 4) (withHold 4 (some ⟨2, 0⟩) busy)) 4 = none := by decide
/-- R121, log entry 29: desk 0's hold on line 9 stands while the line leaves for queue A, and a report after a DROP retarget
releases it. -/
theorem test_retargeted_line_loses_its_studio_hold :
    holder (after (.stateChangedReport 8) (withHold 8 (some ⟨0, 0⟩) busy)) 8 = some 0 ∧
    holder (after (.stateChangedReport 8) (withHold 8 (some ⟨0, 0⟩) (told 0 .drop 9 []))) 8 = none := by decide +kernel
/-- 120 seconds: the hold of block 0 is released at the end of block 120000. -/
theorem test_talk_timeout_at_120000_blocks :
    holder (after .talkTimeout { screenerTalks with lanes := { LaneInterface.reset with block := 119999 } }) 3 = some 2 ∧
    holder (after .talkTimeout { screenerTalks with lanes := { LaneInterface.reset with block := 120000 } }) 3 = none := by
  decide
theorem test_set_talk_gain_of_desk_3_is_bad :
    answer 0 (told 0 .setTalkGain 0 [3, 0, 0]) = some (.badValue, []) := by decide
theorem test_set_talk_timeout_stores : (told 0 .setTalkTimeout 0 [1, 255]).talk.timeout[(1 : Desk)] = 255 := by decide
theorem test_set_conf_pairing_is_checked : answer 2 (told 2 .setConf 0 [2, 0, 1]) = some (.badValue, []) := by decide
theorem test_set_ctx_gain_stores_the_hold_gain :
    (told 1 .setCtxGain 0 [1, 1, 0x10, 0]).ctx.studios.b.holdGain = 4096 := by decide
theorem test_set_duck_is_clamped : (told 2 .setDuck 0 [2, 9]).ctx.screen.duck = 4 := by decide
theorem test_set_stem_timing_is_clamped :
    answer 0 (told 0 .setStemTiming 0 [0, 0, 0xFF, 0xFF]) = some (.done, [1, 0xEA, 0x60]) := by decide
theorem test_force_path_is_pending : ((told 2 .forcePath 1 [1]).paths[(0 : Line)]).pending = some .primary := by decide
theorem test_set_path_timing_of_all_lines :
    ((told 0 .setPathTiming 0 [65, 0, 0, 0]).paths[(15 : Line)]).failThr = 64 := by decide
theorem test_restart_to_free_ends_a_forced_mode :
    ((after (.pathRestart 0 true) { busy with
      paths := busy.paths.set 0 { PathLine.reset with mode := .primary, arrival := 20 } }).paths[(0 : Line)]).pending =
      some .auto := by decide

/-! ### Numbers of the mix (R76, section 4.8) -/

theorem test_round_shift_table :
    roundShift 14 (-24576) = -1 ∧ roundShift 14 24576 = 2 ∧ roundShift 14 11596585 = 708 ∧
    roundShift 2 1200002 = 300001 ∧ roundShift 2 (-1200002) = -300000 ∧ roundShift 2 1200001 = 300000 := by decide
/-- Section 4.8.5: the gain 4096 of frame 96 falls to the target 4000 in frame 97. -/
theorem test_ramp_ends_with_the_whole_distance : rampStep 4000 4128 = 4000 ∧ rampStep 16384 0 = 128 := by decide
/-- Section 4.8.4: 9,000,000 saturates, 8,200,000 stands. -/
theorem test_saturation : saturate 9000000 = 8388607 ∧ saturate 8200000 = 8200000 := by decide

/-- Section 4.8.1: lines 3 and 7 on air in Studio A, desk 0 talking to line 7. Slot 3 carries line 3, slot 7 line 7,
slot 8 the stem, slot 9 desk 0's talk. The gains stand one ramp step from the values of the case. -/
def onAir : State :=
  { State.reset with
    lines := ⟨Vector.ofFn fun n => { LineRec.reset with
      state := if n = 2 ∨ n = 6 then .air .a .steady else .free
      level := if n = 6 then 8192 else 16384 }, ⟨[], []⟩, false⟩
    ctx := { ContextStore.reset with studios := ⟨{ StudioCtx.reset with base := .normal }, StudioCtx.reset⟩ }
    maps := { SlotMap.reset with input := Vector.ofFn fun r =>
      match r.val with
      | 2 => some ⟨0, 3⟩
      | 6 => some ⟨0, 7⟩
      | 32 => some ⟨0, 8⟩
      | 41 => some ⟨0, 9⟩
      | _ => none }
    lanes := { LaneInterface.reset with
      locked := Vector.ofFn fun _ => true
      input := Vector.ofFn fun i => ⟨BitVec.ofInt 24 (if i = 3 then 200000 else if i = 7 then -50000
        else if i = 8 then 1000000 else 400000), true, true⟩ }
    mix := { MixEngine.reset with
      send := Vector.ofFn fun n => if n = 6 then 8192 else 16384
      ret := Vector.ofFn fun _ => 16384
      gains := ⟨⟨16384, 16384, 16384⟩, ⟨16384, 16384, 16384⟩⟩ }
    talk := { TalkArbiter.reset with holds := Vector.ofFn fun n => if n = 6 then some ⟨0, 0⟩ else none } }

theorem test_two_parties_on_air_line_3 : returnRaw onAir (rampAll onAir) 2 = 975000 := by decide
theorem test_two_parties_on_air_line_7 : returnRaw onAir (rampAll onAir) 6 = 700000 := by decide
theorem test_two_parties_on_air_mix : groupRaw onAir (rampAll onAir) (.air .a) = 175000 := by decide
theorem test_frame_raises_the_input_peak :
    ((after .frameComputation onAir).mix.peaks[(2 : Desk)]).input[(6 : Line)] = 50000 := by decide
theorem test_frame_reports_a_fade_at_gain_0 : (after .frameComputation busy).wires.fades = [(7, 0), (8, 0)] := by decide
theorem test_clip_is_counted_and_noticed :
    (countClip busy 16).mix.clips[(16 : Output)] = ⟨1, 1001, false⟩ ∧
    ((countClip busy 16).desk 1).offered = [.clip 16 1] := by decide
theorem test_quiet_count_falls_to_a_pending_notice :
    (after .clipQuietTick { busy with mix := { MixEngine.reset with
      clips := Vector.ofFn fun _ => ⟨7, 1, true⟩ } }).mix.clips[(20 : Output)] = ⟨7, 1000, false⟩ := by decide +kernel
theorem test_read_meters_clears_the_senders_peaks :
    let s := after .frameComputation onAir
    let t := after (.readMeters .decided 0 7 []) (handed 0 .readMeters 7 [] s)
    (t.mix.peaks[(0 : Desk)]).input[(6 : Line)] = 0 ∧ (t.mix.peaks[(1 : Desk)]).input[(6 : Line)] = 50000 := by decide
theorem test_read_studio_begins_with_the_queue :
    (answer 2 (told 2 .readStudio 0 [0])).map (fun r => r.2.take 5) = some [2, 4, 0, 9, 1] := by decide

/-! ### Lanes, maps, base feeds -/

/-- Bits 31 to 8 carry the audio, bit 7 VALID, bit 6 CONNECTED. -/
theorem test_slot_bits : readSlot 0xFFFFFF80 = ⟨0xFFFFFF, true, false⟩ ∧ readSlot 0x00000140 = ⟨1, false, true⟩ := by
  decide
theorem test_output_slot_bits : slotWord 1 true false = 0x00000180 ∧ slotWord 0 false true = 0x00000020 := by decide
theorem test_block_counter_wraps :
    (after .blockStart { busy with lanes := { LaneInterface.reset with block := 0xFFFFFFFF } }).lanes.block = 0 := by
  decide
/-- Section 8.6: 249 in FREE-RUN rises to 250 and the clock is REFERENCED. -/
theorem test_relock_at_250 :
    (after .laneBlockEnd { busy with lanes := { LaneInterface.reset with frames := 48, relock := 249 } }).lanes.clock =
      .referenced := by decide +kernel
theorem test_lost_reference_goes_free_run :
    (after .laneBlockEnd { busy with lanes := { LaneInterface.reset with
      frames := 47, relock := 250, clock := .referenced } }).lanes.clock = .freeRun := by decide +kernel
theorem test_set_clock_is_pending : (told 0 .setClock 0 [2]).lanes.pendingRef = some 2 := by decide
theorem test_reference_lane_change :
    (after .referenceLaneChange (told 0 .setClock 0 [2])).lanes.refLane = 2 := by decide +kernel
theorem test_map_input_on_a_line_with_a_party_is_busy :
    answer 0 (told 0 .mapInput 0 [16, 1, 3]) = some (.busy, []) := by decide +kernel
theorem test_map_input_role_44_is_bad : answer 0 (told 0 .mapInput 0 [44, 1, 3]) = some (.badValue, []) := by decide
theorem test_map_output_copy_slot_16_is_bad :
    answer 0 (told 0 .mapOutput 0 [0, 0, 5, 0, 16]) = some (.badValue, []) := by decide
theorem test_map_output_is_pending :
    (told 0 .mapOutput 0 [1, 3, 1, 14, 0]).maps.outPending[(19 : Fin 64)] = some (.ret 13) := by decide +kernel
theorem test_output_map_takes_effect :
    (after .outputMapApply (told 0 .mapOutput 0 [1, 3, 1, 14, 0])).maps.output[(19 : Fin 64)] = .ret 13 := by
  decide +kernel
theorem test_input_map_takes_effect :
    (after .inputMapApply (told 0 .mapInput 0 [32, 1, 0])).maps.input[(32 : Fin 44)] = some ⟨1, 0⟩ := by
  decide +kernel

/-- A studio with a stem bad run at its fail threshold of 8 and a safe feed judged GOOD or BAD. -/
def failing (safeGood : Bool) : StudioCtx :=
  { StudioCtx.reset with base := .normal, stem := ⟨false, 0, 8⟩, safe := ⟨safeGood, 0, 0⟩ }

theorem test_failed_stem_falls_to_safe_or_bare :
    nextBase (failing true) = .safe ∧ nextBase (failing false) = .bare := by decide
theorem test_safe_returns_to_normal_first :
    nextBase { StudioCtx.reset with base := .safe, stem := ⟨true, 500, 0⟩, safe := ⟨false, 0, 8⟩ } = .normal := by decide
theorem test_feed_judgement_of_unassigned_roles :
    (after .feedJudgement busy).ctx.studios.a.stem = ⟨false, 0, 1⟩ := by decide +kernel
/-- The busy part in block 7 with the given frames taken and Studio A in NORMAL with a stem bad run of 20, its feeds
unassigned and its fail threshold lowered to 8, the tests made last in the given block. -/
def lowered (frames : Nat) (last : BlockNo) : State :=
  { busy with
    lanes := { busy.lanes with block := 7, frames := frames }
    ctx := { ContextStore.reset with
      studios := ⟨{ failing false with stem := ⟨false, 0, 20⟩ }, StudioCtx.reset⟩, tested := some last } }

/-- R106, R114: the lowered threshold counts at the next block end, not within the block and not once its tests are made. -/
theorem test_base_level_moves_at_a_block_end_alone :
    (after (.baseLevelTransition .a) (lowered 48 6)).ctx.studios.a.base = .bare ∧
    (after (.baseLevelTransition .a) (lowered 47 6)).ctx.studios.a.base = .normal ∧
    (after (.baseLevelTransition .a) (lowered 48 7)).ctx.studios.a.base = .normal := by decide +kernel
/-- R104, R106: the row is the block-end step in which the transition comes about, and that step is then made. -/
theorem test_the_row_and_the_block_end_agree :
    let moved := after (.baseLevelTransition .a) (lowered 48 6)
    moved.ctx = (after .feedJudgement (lowered 48 6)).ctx ∧ Safety.mayHappen .feedJudgement moved = false ∧
    Safety.mayHappen .feedJudgement (lowered 48 6) = true := by decide +kernel

/-! ### Paths and parties -/

/-- A line in AUTO whose active primary has failed while its alternate was GOOD. -/
def failed : PathLine :=
  { PathLine.reset with primary := ⟨.bad, 0, 8, true⟩, alternate := ⟨.good, 1, 0, true⟩ }

/-- The busy part in block 7 with the given frames taken, line 1 with both paths assigned and its step made last in the
given block; every lane locked, and VALID in all frames so far on one slot alone (0 the primary's, 16 the alternate's). -/
def pathEnd (frames : Nat) (last : BlockNo) (p : PathLine) (valid : Fin 64) : State :=
  { busy with
    maps := { busy.maps with input := busy.maps.input.set 16 (some ⟨1, 0⟩) }
    lanes := { busy.lanes with
      block := 7
      frames := frames
      lockedSoFar := Vector.ofFn fun _ => true
      validSoFar := Vector.ofFn fun i => i == valid }
    paths := busy.paths.set 0 { p with tested := some last } }

/-- The active path of line 1 after its FAILOVER row. -/
def afterFailover (s : State) : PathSide := ((after (.failover 0) s).paths[(0 : Line)]).active

/-- R136: a bad run of 7 that this block makes 8 fails at the block end, not within the block and not once it is tested. -/
theorem test_failover_at_a_block_end_alone :
    let p : PathLine := { PathLine.reset with primary := ⟨.bad, 0, 7, true⟩ }
    afterFailover (pathEnd 48 6 p 16) = .alternate ∧ afterFailover (pathEnd 47 6 p 16) = .primary ∧
    afterFailover (pathEnd 48 7 p 16) = .primary := by decide +kernel
/-- R137: a mode set pending after the block end's step waits for the next. -/
theorem test_pending_mode_waits_for_the_next_block_end :
    let mode (s : State) : PathMode := ((after (.pendingModeApply 0) s).paths[(0 : Line)]).mode
    let p : PathLine := { PathLine.reset with pending := some .alternate }
    mode (pathEnd 48 6 p 16) = .alternate ∧ mode (pathEnd 48 7 p 16) = .auto := by decide +kernel

theorem test_failover_at_the_threshold : (failoverLine failed).active = .alternate := by decide
theorem test_revert_at_500_good_blocks :
    (revertLine { PathLine.reset with active := .alternate, primary := ⟨.good, 500, 0, true⟩ }).active = .primary := by
  decide
theorem test_pending_mode_restarts_the_runs :
    applyMode { failed with pending := some .alternate } =
      { failed with
        mode := .alternate
        active := .alternate
        primary := ⟨.bad, 0, 0, true⟩
        alternate := ⟨.good, 0, 0, true⟩ } := by decide
/-- Connected for the 20th block end on a FREE line raises party present. -/
theorem test_party_present_at_20 :
    partyEvents 9 { PathLine.reset with arrival := 19 } { PathLine.reset with arrival := 20 } = [.present 9] := by decide
theorem test_party_gone_at_200 :
    partyEvents 0 { PathLine.reset with gone := 199 } { PathLine.reset with gone := 200 } = [.gone 0] := by decide
theorem test_path_block_end_counts_a_gone_party :
    ((after .pathBlockEnd busy).paths[(0 : Line)]).gone = 1 := by decide +kernel
theorem test_party_present_makes_waiting : stateOf (after (.partyPresent 9) busy) 9 = .waiting := by decide
theorem test_party_gone_frees : stateOf (after (.partyGone 4) busy) 4 = .free := by decide +kernel
theorem test_fade_completion_confirms_the_entry :
    stateOf (after (.fadeComplete 8 0) busy) 8 = .queued .a ∧
    (after (.fadeComplete 8 0) busy).lines.queues.a = [⟨3, false⟩, ⟨8, false⟩] := by decide +kernel
theorem test_fade_completion_with_an_old_tag_is_ignored :
    stateOf (after (.fadeComplete 8 0xFFFF) busy) 8 = .screen (.leaving (.queued .a)) := by decide +kernel
theorem test_clearing_count_rises : stateOf (after .clearingCountTick busy) 6 = .clearing 4 := by decide
theorem test_clearing_timeout_waits_for_2000 : stateOf (after (.clearingTimeout 6) busy) 6 = .clearing 3 := by decide
/-- The busy part as lines 4 and 9 lose their primary roles, with their map-changed event handed to the Line Table. -/
def twoRolesGone : State :=
  { busy with
    maps := { busy.maps with input := (busy.maps.input.set 3 none).set 8 none }
    wires := { busy.wires with mapChanges := [[3, 8]] } }

/-- R17: both lines are freed in one step, LINE-STATE 4, LINE-STATE 9, then one QUEUE notice. -/
theorem test_role_loss_frees_all_lines_in_one_step :
    ((after (.primaryRoleLoss [3, 8]) twoRolesGone).desk 2).offered =
      [.lineState 3 .free, .lineState 8 .free, .queue .a []] ∧
    (after (.primaryRoleLoss [3, 8]) twoRolesGone).wires.mapChanges = [] := by decide +kernel
theorem test_role_loss_is_taken_once :
    stateOf (after (.primaryRoleLoss [3, 8]) { twoRolesGone with wires := busy.wires }) 3 = .queued .a := by decide +kernel
/-- R153: roles 2 and 33 change and are named in one event; role 40 gets the slot it has. -/
theorem test_input_map_apply_hands_on_one_event :
    let ask1 (role : Fin 44) (v : Option Slot) (m : SlotMap) : SlotMap :=
      { m with inPending := m.inPending.set role (some v) }
    let asked : SlotMap := ask1 2 none (ask1 33 (some ⟨3, 1⟩) (ask1 40 busy.maps.input[(40 : Fin 44)] busy.maps))
    (after .inputMapApply { busy with maps := asked }).wires.mapChanges = [[2, 33]] := by decide +kernel

/-! ### Links, notices and the Loader -/

theorem test_byte_starts_a_message :
    ((after (.byteReceived 0 0xC3) busy).desk 0).assembler = .compact [] := by decide
theorem test_bad_message_is_counted : ((after (.badMessage 1) busy).desk 1).bad = 1 := by decide
theorem test_first_message_makes_the_link_live :
    let s := after (.nop 1 0 []) State.reset
    (s.desk 1).link = .live ∧ (s.desk 0).offered = [.link 1 .live] ∧
    (s.desk 1).handed = [(.talkArbiter, .live), (.lineTable, .live)] ∧ (s.desk 1).notices.length = 1 := by
  decide +kernel
/-- R173: what was offered while the link was LOST is missed, and HELLO stands at the head. -/
theorem test_going_live_drops_older_offers :
    let s := after (.nop 1 0 []) (setDesk 1 { busy.desk 1 with link := .lost, offered := [.link 0 .live] } busy)
    (s.desk 1).offered = [] ∧ (s.desk 1).notices = [⟨busy.lanes.block, helloNotice busy⟩] := by decide +kernel
theorem test_command_while_loading_is_starting :
    answer 0 (after (.take .arrives 0 1 []) State.reset) = some (.starting, []) := by decide +kernel
theorem test_configuration_without_strap_is_not_permitted :
    answer 0 (after (.setClock .arrives 0 0 [1]) (setDesk 0 { (busy.desk 0) with strap := false } busy)) =
      some (.notPermitted, []) := by decide +kernel
theorem test_unknown_code : answer 2 (after (.unknownCommand 2 0x01 0 []) busy) = some (.unknown, []) := by
  decide +kernel
theorem test_whole_command_takes_effect : stateOf (after (.answer .whole 2 1 []) busy) 0 = .screen .steady := by
  decide +kernel
theorem test_set_mask_while_loading_is_starting :
    answer 0 (after (.setMask 0 0 [7, 0xFF]) State.reset) = some (.starting, []) := by decide +kernel
theorem test_nop_with_an_argument_is_bad_value : answer 0 (after (.nop 0 0 [1]) busy) = some (.badValue, []) := by
  decide +kernel
theorem test_set_mask_refuses_bit_11 : answer 0 (after (.setMask 0 0 [8, 0]) busy) = some (.badValue, []) := by
  decide +kernel
theorem test_link_status_is_58_bytes :
    (answer 0 (after (.linkStatus 0 0 []) busy)).map (fun r => r.2.length) = some 58 := by decide +kernel
/-- Section 10.2: with 31 queued and 3 lost, LOST-NOTICES fills the queue and the offered notice is the next lost. -/
theorem test_overflow_case :
    let n : Stamped := ⟨0, .load .ok⟩
    let c := { (busy.desk 2) with notices := List.replicate 31 n, overflow := 3 }
    (enterNotice 5 (.talk 0 none none .state) c).notices.getLast? = some ⟨5, .lostNotices 3⟩ ∧
    (enterNotice 5 (.talk 0 none none .state) c).overflow = 1 := by decide +kernel
theorem test_fallback_flag_follows_desk_2 : (after (.linkLostAtLineTable 2) busy).lines.fallback = true := by decide
theorem test_liveness_block_end_loses_the_link :
    ((after (.livenessBlockEnd 0) (setDesk 0 { (busy.desk 0) with liveness := 1999 } busy)).desk 0).link = .lost := by
  decide +kernel
/-- A TAKE's reply: code 0x16, line 7, DONE with the discarded marker, data 7, and the sum brought to 256. -/
theorem test_reply_bytes :
    replyBytes ⟨0x16, 7, .done, false, [7]⟩ true = [0x5A, 4, 0x16, 7, 0x40, 7, 0x98] := by decide
/-- PATH of line 14: alternate, BAD, GOOD, no fault. -/
theorem test_path_notice_data : noticeData (.path 13 .alternate .bad .good false) = [14, 1, 0, 1, 0] := by decide
theorem test_notice_bytes :
    noticeBytes ⟨0x00010203, .lostNotices 3⟩ = [0x5C, 6, 10, 0, 1, 2, 3, 3, 0xE7] := by decide
theorem test_reset_samples_the_straps :
    ((after (.reset true false true) busy).desk 2).strap = true ∧
    ((after (.reset true false true) busy).desk 1).strap = false := by decide
theorem test_header_of_1001_messages_is_bad :
    (after (.loaderHeader (some 0x48) (some 0x5A) (some 3) (some 0xE9)) State.reset).loader =
      ⟨.running, some .badHeader⟩ := by decide +kernel
theorem test_header_of_1000_messages :
    (after (.loaderHeader (some 0x48) (some 0x5A) (some 3) (some 0xE8)) State.reset).loader =
      ⟨.message 1 1000 ⟨[], 0⟩, none⟩ := by decide
/-- The marker in one read and the count in the next. -/
theorem test_header_in_two_reads :
    (after (.loaderHeader (some 0) (some 2) none none)
      (after (.loaderHeader (some 0x48) (some 0x5A) none none) State.reset)).loader =
      ⟨.message 1 2 ⟨[], 0⟩, none⟩ := by decide
/-- The part at reset as block b runs. -/
def atBlock (b : BlockNo) : State := { State.reset with lanes := { State.reset.lanes with block := b } }
theorem test_silent_memory_is_absent_at_20_blocks :
    (after .memoryTimeout (atBlock 20)).loader = ⟨.running, some .absent⟩ ∧
    (after .memoryTimeout (atBlock 19)).loader = State.reset.loader := by decide +kernel
theorem test_data_of_a_read_count_for_20_blocks :
    (after (.loaderHeader (some 0x48) (some 0x5A) (some 0) (some 0)) (atBlock 20)).loader.result = some .ok ∧
    (after (.loaderHeader (some 0x48) (some 0x5A) (some 0) (some 0)) (atBlock 21)).loader.result = some .absent := by
  decide +kernel
/-- R180: the LOAD notice reaches the LIVE desks alone; desk 2 has its LOAD bit off here. -/
theorem test_load_notice_reaches_live_desks :
    let s := setDesk 2 { busy.desk 2 with mask := 0x06FF } (setDesk 1 { busy.desk 1 with link := .lost } busy)
    ((endLoad .ok s).desk 0).offered = [.load .ok] ∧ ((endLoad .ok s).desk 1).offered = [] ∧
    ((endLoad .ok s).desk 2).offered = [] := by decide +kernel
/-- Section 11.4: SET-LEVEL line 3 of an image with line 3 unequipped stops the load with reason 8. -/
theorem test_image_that_stops :
    (after (.loaderMessage [0xA5, 4, 0x20, 3, 0x2E, 0xE0, 0xCB])
      { State.reset with loader := ⟨.message 4 5 ⟨[], 0⟩, none⟩ }).loader = ⟨.running, some (.stopped 4 8)⟩ := by
  decide +kernel
theorem test_load_config_starts_a_load : (told 0 .loadConfig 0 []).loader =
    ⟨.header ⟨[], busy.lanes.block⟩, some .ok⟩ := by decide
/-- A message of an image that comes in two reads. -/
theorem test_image_message_in_two_reads :
    (after (.loaderMessage [0x20, 3, 0x2E, 0xE0, 0xCB])
      (after (.loaderMessage [0xA5, 4]) { State.reset with loader := ⟨.message 4 5 ⟨[], 0⟩, none⟩ })).loader =
      ⟨.running, some (.stopped 4 8)⟩ := by decide +kernel

/-! ### Witnesses: states and operands that meet each statement's hypotheses, at the bounds of each clause -/

/-- The busy part with desk d's controller changed. -/
def withDesk (d : Desk) (f : Controller → Controller) : State := setDesk d (f (busy.desk d)) busy

/-- A part whose link 0 is LIVE with nothing handed on, and that part after a TAKE of line 4 has arrived. -/
def arrived : State := messageArrives 0 (opCode .take) 4 [] busy

theorem witness_WholeCommandIsArrivalThenDecision :
    ownerOf .take ≠ .controller ∧ (busy.desk 0).link = .live ∧
    firstFor (ownerOf .take) (busy.desk 0).handed = none ∧
    exec (commandOf .take .arrives 0 4 []) busy = .next arrived ∧
    firstFor (ownerOf .take) (busy.desk 0).handed ≠ some (.command .take 4 []) :=
  ⟨by decide, by decide, by decide, rfl, by decide⟩

/-- A part whose link 2 is LOST, after an ANSWER of line 1, or a TALK-ON, has arrived. -/
def arrivedLost (op : Op) : State :=
  messageArrives 2 (opCode op) 1 [] (withDesk 2 fun c => { c with link := .lost })

theorem witness_WholeCommandIsArrivalThenDecision_lost :
    let s := withDesk 2 fun c => { c with link := .lost }
    (s.desk 2).link = .lost ∧ firstFor .lineTable (s.desk 2).handed = none ∧
    firstFor .talkArbiter (s.desk 2).handed = none ∧ exec (.answer .arrives 2 1 []) s = .next (arrivedLost .answer) ∧
    exec (.talkOn .arrives 2 1 []) s = .next (arrivedLost .talkOn) ∧
    (Owner.lineTable, Handed.command .answer 1 []) ∈ ((arrivedLost .answer).desk 2).handed ∧
    (Owner.talkArbiter, Handed.command .talkOn 1 []) ∈ ((arrivedLost .talkOn).desk 2).handed ∧
    exec (.linkLiveAtLineTable 2) (arrivedLost .answer) = .next (after (.linkLiveAtLineTable 2) (arrivedLost .answer)) ∧
    exec (.linkLiveAtTalkArbiter 2) (arrivedLost .talkOn) =
      .next (after (.linkLiveAtTalkArbiter 2) (arrivedLost .talkOn)) :=
  ⟨by decide +kernel, by decide +kernel, by decide +kernel, rfl, rfl, by decide +kernel, by decide +kernel, rfl, rfl⟩

/-- A LOST link in a LOADING part with 15 reply places taken: counts and STARTING, for a command of an owner and for
SET-MASK, NOP and LINK-STATUS. In the busy part: handed on, and NOT-PERMITTED with a low strap. -/
theorem witness_GoodCommandIsCheckedAndHandedOn :
    let full := setDesk 0 { (State.reset.desk 0) with replies := List.replicate 15 (.waiting .loader) } State.reset
    LostIsEmpty (full.desk 0) ∧ (full.desk 0).replies.length < 16 ∧ ownerOf .setClock ≠ .controller ∧
    full.loader.stage ≠ .running ∧ argCountFits .setClock 1 = true ∧ argCountFits .setClock 2 = false ∧
    argCountFits .setMask 2 = true ∧ argCountFits .setMask 1 = false ∧ argCountFits .nop 1 = false ∧
    argCountFits .linkStatus 1 = false ∧ Op.setMask ∉ [Op.nop, .readLine, .readStudio, .readMeters, .linkStatus] ∧
    LostIsEmpty (busy.desk 0) ∧ busy.loader.stage = .running ∧ (busy.desk 0).strap = true ∧
    ((withDesk 0 fun c => { c with strap := false }).desk 0).strap = false := by decide +kernel

theorem witness_NopIsAnsweredDone :
    LostIsEmpty (State.reset.desk 0) ∧ (State.reset.desk 0).replies.length < 16 ∧
    LostIsEmpty ((withDesk 0 fun c => { c with replies := List.replicate 16 (.waiting .loader) }).desk 0) := by
  decide +kernel

theorem witness_UnknownCodeIsAnsweredUnknown :
    LostIsEmpty (State.reset.desk 2) ∧ (State.reset.desk 2).replies.length < 16 ∧
    (∀ op ∈ allOps, opCode op ≠ 0x01) := by decide

theorem witness_FullReplyQueueDiscardsCommand :
    let s := withDesk 1 fun c => { c with replies := List.replicate 16 (.waiting .loader) }
    LostIsEmpty (s.desk 1) ∧ (s.desk 1).replies.length = 16 := by decide +kernel

theorem witness_SetMaskReplacesTheMask :
    LostIsEmpty (busy.desk 0) ∧ (busy.desk 0).replies.length < 16 ∧ busy.loader.stage = .running ∧
    (7 : Byte).toNat < 8 ∧ 8 ≤ (8 : Byte).toNat := by decide

theorem witness_LinkStatusIsAnswered :
    LostIsEmpty (State.reset.desk 1) ∧ (State.reset.desk 1).replies.length < 16 := by decide

theorem witness_EveryMessageIsReadBack :
    (List.replicate 58 (0xFF : Byte)).length ≤ 58 ∧ ([] : List Byte).length ≤ 58 := by decide

/-- A message in assembly at gap count 20: nothing yet, one compact byte, and a full message short of its check. -/
theorem witness_ReceivedByteIsAssembled :
    let at_ (a : Assembler) := withDesk 0 fun c => { c with assembler := a, gap := 20 }
    ((at_ .hunt).desk 0).gap < 21 ∧ assemblerLegal ((at_ (.compact [6])).desk 0).assembler = true ∧
    assemblerLegal ((at_ (.full [])).desk 0).assembler = true ∧
    assemblerLegal ((at_ (.full [2, 0x16, 7])).desk 0).assembler = true ∧
    assemblerLegal ((at_ (.full (60 :: List.replicate 60 0))).desk 0).assembler = true := by decide +kernel

theorem witness_BadMessageIsCountedAndLinkGoesLost :
    let s := withDesk 0 fun c => { c with assembler := .full [], gap := 21, liveness := 2000 }
    let u := withDesk 0 fun c => { c with assembler := .full [], gap := 20, liveness := 1999 }
    (s.desk 0).assembler ≠ .hunt ∧ 21 ≤ (s.desk 0).gap ∧ (u.desk 0).gap < 21 ∧ (busy.desk 0).assembler = .hunt ∧
    (s.desk 0).link = .live ∧ 2000 ≤ (s.desk 0).liveness ∧ (u.desk 0).liveness < 2000 ∧
    (State.reset.desk 0).link = .lost := by decide +kernel

/-- A LIVE link one block end from its limits, and a LOST link whose count stands at 2000. -/
theorem witness_BlockEndOfALink :
    let s := withDesk 0 fun c => { c with assembler := .full [], gap := 20, liveness := 1999 }
    let u := withDesk 0 fun c => { c with assembler := .full [], gap := 20, liveness := 2000, link := .lost }
    (s.desk 0).gap ≤ 20 ∧ (s.desk 0).liveness ≤ 1999 ∧ (s.desk 0).link = .live ∧
    (u.desk 0).gap ≤ 20 ∧ ((u.desk 0).link = .live → (u.desk 0).liveness ≤ 1999) := by decide +kernel

/-- Offered with 31 entries and 255 lost, and with a full queue. -/
theorem witness_OfferedNoticeIsFiltered :
    let n : Stamped := ⟨0, .load .ok⟩
    let s := withDesk 0 fun c =>
      { c with offered := [.load .ok], notices := List.replicate 31 n, overflow := 255 }
    let u := withDesk 0 fun c => { c with offered := [.load .ok], notices := List.replicate 32 n }
    (s.desk 0).offered = .load .ok :: [] ∧ (s.desk 0).notices.length = 31 ∧
    (u.desk 0).offered = .load .ok :: [] ∧ 32 ≤ (u.desk 0).notices.length := by decide +kernel

/-- Each refusal of the check order, from the arguments to step 7. -/
theorem witness_LineCommandRefusalsInOrder_results :
    firstRefusal .queue 2 1 [2] busy = some .badValue ∧ firstRefusal .answer 2 17 [] busy = some .noLine ∧
    firstRefusal .answer 2 16 [] busy = some .notEquipped ∧ firstRefusal .answer 2 10 [] busy = some .noParty ∧
    firstRefusal .answer 0 1 [] busy = some .notYours ∧ firstRefusal .promote 2 9 [] busy = some .busy ∧
    firstRefusal .answer 2 7 [] busy = some .wrongState := by decide +kernel

/-- A SCREEN group of four members leaves no room for an ANSWER. -/
def fullScreen : State :=
  { busy with lines := { busy.lines with recs := Vector.ofFn fun n =>
      { LineRec.reset with state := if n.val < 4 then .screen .steady else .waiting } } }

theorem witness_LineCommandRefusalsInOrder :
    let s := handed 2 .answer 5 [] fullScreen
    Op.answer ∈ lineOps ∧ Waits s 2 .answer 5 [] ∧ argCountFits .answer 0 = true ∧
    firstRefusal .answer 2 5 [] s = some .full := by decide +kernel

/-- The busy part's queues and leaves keep their laws. -/
theorem witness_TakeNextTakesTheHead :
    Waits (ask 0 .takeNext 0 []) 0 .takeNext 0 [] ∧ QueueLaw (ask 0 .takeNext 0 []).lines ∧
    DestLaw (ask 0 .takeNext 0 []).lines := by decide +kernel

theorem witness_AnswerRecallAndHoldAtTheScreen :
    Accepted (ask 2 .answer 1 []) 2 .answer 1 [] 0 ∧ Accepted (ask 2 .answer 3 []) 2 .answer 3 [] 2 ∧
    Accepted (ask 2 .recall 4 []) 2 .recall 4 [] 3 ∧ Accepted (ask 2 .hold 1 []) 2 .hold 1 [] 0 ∧
    Accepted (ask 2 .hold 2 []) 2 .hold 2 [] 1 := by decide +kernel

theorem witness_QueueGiveAndPromoteOrderTheQueues :
    QueueLaw (ask 2 .queue 1 [1]).lines ∧ Accepted (ask 2 .queue 1 [1]) 2 .queue 1 [1] 0 ∧
    Accepted (ask 2 .queue 2 [0]) 2 .queue 2 [0] 1 ∧ Accepted (ask 2 .queue 4 [0]) 2 .queue 4 [0] 3 ∧
    Accepted (ask 0 .give 4 [1]) 0 .give 4 [1] 3 ∧ Accepted (ask 0 .promote 4 []) 0 .promote 4 [] 3 ∧
    ((ask 0 .promote 4 []).line 3).state = .queued .a := by decide +kernel

theorem witness_TakeBringsToAir :
    Accepted (ask 0 .take 4 []) 0 .take 4 [] 3 ∧ Accepted (ask 0 .take 3 []) 0 .take 3 [] 2 ∧
    Accepted (ask 0 .take 6 []) 0 .take 6 [] 5 ∧ Accepted (ask 0 .take 8 []) 0 .take 8 [] 7 := by decide +kernel

theorem witness_PrivateAndParkMoveTheLine :
    Accepted (ask 0 .privateTalk 4 []) 0 .privateTalk 4 [] 3 ∧
    Accepted (ask 0 .privateTalk 3 []) 0 .privateTalk 3 [] 2 ∧
    Accepted (ask 0 .privateTalk 5 []) 0 .privateTalk 5 [] 4 ∧ Accepted (ask 0 .park 5 []) 0 .park 5 [] 4 ∧
    Accepted (ask 0 .park 6 []) 0 .park 6 [] 5 := by decide +kernel

theorem witness_DropSendsToClearing :
    Accepted (ask 2 .drop 4 []) 2 .drop 4 [] 3 ∧ Accepted (ask 2 .drop 2 []) 2 .drop 2 [] 1 ∧
    Accepted (ask 0 .drop 8 []) 0 .drop 8 [] 7 := by decide +kernel

theorem witness_LineSettingsAreStored :
    Accepted (ask 2 .setLevel 1 [0x80, 0]) 2 .setLevel 1 [0x80, 0] 0 ∧
    Accepted (ask 2 .setReturn 1 [0x7F, 0xFF]) 2 .setReturn 1 [0x7F, 0xFF] 0 ∧
    Accepted (ask 2 .setLabel 1 []) 2 .setLabel 1 [] 0 ∧
    Accepted (ask 2 .setLabel 1 (List.replicate 58 0x7E)) 2 .setLabel 1 (List.replicate 58 0x7E) 0 ∧
    Accepted (ask 2 .setHome 3 [1]) 2 .setHome 3 [1] 2 := by decide +kernel

theorem witness_ReadLineShowsTheLine :
    Waits (ask 1 .readLine 16 []) 1 .readLine 16 [] ∧ lineOfByte 16 = some 15 ∧
    Waits (ask 1 .readLine 17 []) 1 .readLine 17 [] ∧ lineOfByte 17 = none := by decide +kernel

theorem witness_PathSettingsAreStored :
    Accepted (ask 2 .forcePath 1 [2]) 2 .forcePath 1 [2] 0 ∧ Accepted (ask 2 .forcePath 1 [0]) 2 .forcePath 1 [0] 0 ∧
    Waits (ask 0 .setPathTiming 16 [64, 0xEA, 0x61, 1]) 0 .setPathTiming 16 [64, 0xEA, 0x61, 1] := by decide +kernel

theorem witness_TalkIsClaimedAndReleased :
    Waits (ask 0 .talkOn 4 []) 0 .talkOn 4 [] ∧ Waits (ask 0 .talkOff 4 []) 0 .talkOff 4 [] := by decide +kernel

theorem witness_TalkSettingsAreStored :
    Waits (ask 0 .setTalkGain 0 [2, 0x80, 0]) 0 .setTalkGain 0 [2, 0x80, 0] ∧
    Waits (ask 0 .setTalkTimeout 0 [3, 255]) 0 .setTalkTimeout 0 [3, 255] := by decide +kernel

theorem witness_ConferenceAndGainAreStored :
    Waits (ask 0 .setConf 0 [2, 2, 1]) 0 .setConf 0 [2, 2, 1] ∧
    Waits (ask 0 .setCtxGain 0 [1, 2, 0x80, 0]) 0 .setCtxGain 0 [1, 2, 0x80, 0] := by decide +kernel

theorem witness_DuckAndStemTimingAreStored :
    Waits (ask 0 .setDuck 0 [2, 5]) 0 .setDuck 0 [2, 5] ∧
    Waits (ask 0 .setStemTiming 0 [1, 65, 0, 0]) 0 .setStemTiming 0 [1, 65, 0, 0] := by decide +kernel

/-- Line 3 on air with another own sample, and no other role at its slot. -/
def otherVoice : Vector SlotIn 64 := onAir.lanes.input.set 3 ⟨123456, true, true⟩

theorem witness_OwnVoiceNeverReturns :
    (∀ role : Fin 44, role ≠ activeRole onAir 2 →
      sampleOf { onAir with lanes := { onAir.lanes with input := otherVoice } } role = sampleOf onAir role) ∧
    exec .frameComputation onAir = .next (computeFrame onAir) ∧
    exec .frameComputation { onAir with lanes := { onAir.lanes with input := otherVoice } } =
      .next (computeFrame { onAir with lanes := { onAir.lanes with input := otherVoice } }) :=
  ⟨by decide +kernel, rfl, rfl⟩

theorem witness_PartsOfABlockEndAlone :
    (lowered 48 6).lanes.frames = 48 ∧ (lowered 48 6).ctx.tested ≠ some (lowered 48 6).lanes.block ∧
    levelAfter { (lowered 48 6).ctx.studios.a with
      stem := feedAfter (roleGood (lowered 48 6) (stemRole .a)) (lowered 48 6).ctx.studios.a.stem
      safe := feedAfter (roleGood (lowered 48 6) (safeRole .a)) (lowered 48 6).ctx.studios.a.safe } ≠
      (lowered 48 6).ctx.studios.a.base ∧
    (lowered 47 6).lanes.frames ≠ 48 ∧ (lowered 48 7).ctx.tested = some (lowered 48 7).lanes.block ∧
    ({ LaneInterface.reset with relock := 250 }).clock = .freeRun ∧ LaneInterface.reset.relock ≠ 250 ∧
    (⟨7, 0, true⟩ : ClipRec).quiet = 0 ∧ (⟨7, 0, true⟩ : ClipRec).pending = true ∧
    (⟨7, 1, true⟩ : ClipRec).quiet ≠ 0 ∧ (⟨7, 0, false⟩ : ClipRec).pending = false := by decide +kernel

theorem witness_ReadsOfMetersAndStudio :
    Waits (ask 1 .readMeters 0 []) 1 .readMeters 0 [] ∧ Waits (ask 1 .readMeters 16 []) 1 .readMeters 16 [] ∧
    Waits (ask 2 .readStudio 9 [1]) 2 .readStudio 9 [1] ∧ Waits (ask 2 .readStudio 9 [2]) 2 .readStudio 9 [2] := by
  decide +kernel

theorem witness_ReferenceLaneIsPendingUntilABlockStart :
    Waits (ask 0 .setClock 0 [3]) 0 .setClock 0 [3] ∧ Waits (ask 0 .setClock 0 [4]) 0 .setClock 0 [4] := by
  decide +kernel

theorem witness_MapInputIsDecidedInOrder :
    Waits (ask 0 .mapInput 0 [44, 0, 0]) 0 .mapInput 0 [44, 0, 0] ∧ 44 ≤ (44 : Byte).toNat ∧
    Waits (ask 0 .mapInput 0 [43, 4, 0]) 0 .mapInput 0 [43, 4, 0] ∧ (4 : Byte).toNat ≠ 255 ∧ 4 ≤ (4 : Byte).toNat ∧
    Waits (ask 0 .mapInput 0 [43, 3, 16]) 0 .mapInput 0 [43, 3, 16] ∧ 16 ≤ (16 : Byte).toNat ∧
    Waits (ask 0 .mapInput 0 [43, 255, 16]) 0 .mapInput 0 [43, 255, 16] ∧ (43 : Byte).toNat = (43 : Fin 44).val ∧
    (255 : Byte).toNat = 255 ∧ Waits (ask 0 .mapInput 0 [43, 3, 15]) 0 .mapInput 0 [43, 3, 15] ∧
    (3 : Byte).toNat < 4 ∧ (15 : Byte).toNat < 16 := by decide +kernel

theorem witness_MapOutputIsDecided :
    Waits (ask 0 .mapOutput 0 [3, 15, 1, 16, 0]) 0 .mapOutput 0 [3, 15, 1, 16, 0] ∧
    Waits (ask 0 .mapOutput 0 [3, 15, 5, 3, 15]) 0 .mapOutput 0 [3, 15, 5, 3, 15] ∧
    Waits (ask 0 .mapOutput 0 [4, 0, 6, 0, 0]) 0 .mapOutput 0 [4, 0, 6, 0, 0] := by decide +kernel

/-- At an untested block end: a failover due at the threshold of 8, none at a bad run of 7, a revert due at 500, a pending
mode; and two states in which no step is due. -/
theorem witness_PathChangesOfALine :
    let due (s : State) : Prop := s.lanes.frames = 48 ∧ ∀ k : Line, (s.paths[k]).tested ≠ some s.lanes.block
    let s := pathEnd 48 6 { PathLine.reset with primary := ⟨.bad, 0, 7, true⟩ } 16
    let u := pathEnd 48 6 { PathLine.reset with active := .alternate, primary := ⟨.good, 499, 0, true⟩ } 0
    let v := pathEnd 48 6 { PathLine.reset with pending := some .alternate } 16
    due s ∧ due u ∧ due v ∧ (v.paths[(0 : Line)]).pending = some .alternate ∧ (s.paths[(0 : Line)]).mode = .auto ∧
    (s.paths[(0 : Line)]).pending = none ∧ (s.paths[(0 : Line)]).active = .primary ∧
    (pathAfter (judged s 0 (primaryRole 0)) true 0 7).badRun = 8 ∧
    (pathAfter (judged s 0 (primaryRole 0)) true 0 6).badRun = 7 ∧ judged s 0 (alternateRole 0) = .good ∧
    judged u 0 (alternateRole 0) = .bad ∧ (pathAfter (judged u 0 (primaryRole 0)) true 499 0).goodRun = 500 ∧
    (u.paths[(0 : Line)]).autoRevert = true ∧ (pathEnd 47 6 failed 16).lanes.frames ≠ 48 ∧
    ((pathEnd 48 7 failed 16).paths[(0 : Line)]).tested = some (pathEnd 48 7 failed 16).lanes.block := by
  decide +kernel

theorem witness_LoadsBeginAndEnd :
    State.reset.loader.stage = .header ⟨[], 0⟩ ∧ blocksSince 0 (atBlock 20) = 20 ∧ blocksSince 0 (atBlock 21) = 21 ∧
    blocksSince 0xFFFFFFFF (atBlock 19) = 20 ∧ Waits (ask 0 .loadConfig 0 []) 0 .loadConfig 0 [] := by decide +kernel

/-- The Loader reading message 1 of 2. -/
def loading : State := { busy with loader := ⟨.message 1 2 ⟨[0xA5], busy.lanes.block⟩, none⟩ }

/-- An unfinished message, bytes with a wrong sum, and bytes of a right sum that go past the check, all behind the lead
read before; a wait of 21 blocks; a code outside the catalogue; refusals. -/
theorem witness_ImageMessageStopsTheLoad :
    loading.loader.stage = .message 1 2 ⟨[0xA5], busy.lanes.block⟩ ∧ blocksSince busy.lanes.block loading ≤ 20 ∧
    20 < blocksSince (busy.lanes.block - 21) loading ∧ ([0xA5] ++ [60] : List Byte).length < 60 + 3 ∧
    [0xA5] ++ (encodeFull 0x01 0 []).tail = encodeFull 0x01 0 [] ∧ (List.replicate 58 (0x41 : Byte)).length ≤ 58 ∧
    (([0xA5, 2, 0, 0, 0xFF] : List Byte).drop 1).sum ≠ 0 ∧
    (([0xA5, 2, 0, 0, 0xFE, 0] : List Byte).drop 1).sum = 0 ∧
    ([0xA5, 2, 0, 0, 0xFE, 0] : List Byte).length ≠ (([0xA5, 2, 0, 0, 0xFE, 0] : List Byte).getD 1 0).toNat + 3 ∧
    (0x01 : Byte) ∉ allOps.map opCode ∧
    imageRefusal .setLabel 1 (List.replicate 58 0x41) loading = some .notYours ∧
    imageRefusal .talkOff 7 [] loading = some .wrongState ∧ imageRefusal .setMask 0 [0, 0] loading = some .notYours := by
  decide +kernel

/-- The start-up load reading message 1 of 2. -/
def startUp : State := { State.reset with loader := ⟨.message 1 2 ⟨[0xA5], 0⟩, none⟩ }

/-- The settings of the image at start-up, each link LOST and no desk's command at hand; the first meets the premises with
a MAP-INPUT, a MAP-OUTPUT, a SET-CTX-GAIN and a SET-DUCK. -/
theorem witness_ImageMessageHasItsOwnersEffect :
    startUp.loader.stage = .message 1 2 ⟨[0xA5], 0⟩ ∧ blocksSince 0 startUp ≤ 20 ∧
    (∀ d : Desk, (startUp.desk d).link = .lost ∧ (startUp.desk d).handed = []) ∧
    (∀ c ∈ ([(.mapInput, [43, 3, 15]), (.mapOutput, [3, 15, 1, 16, 0]), (.setCtxGain, [0, 0, 0, 1]),
        (.setDuck, [2, 5])] : List (Op × List Byte)),
      [0xA5] ++ (encodeFull (opCode c.1) 0 c.2).tail = encodeFull (opCode c.1) 0 c.2 ∧
      argCountFits c.1 c.2.length = true) := by decide +kernel

/-- R179: the image's SET-DUCK at start-up limits the depth 5 of context 2 to 4, stores it and goes on to message 2. -/
theorem test_image_sets_the_duck_at_start_up :
    let t := after (.loaderMessage (encodeFull 0x32 0 [2, 5]).tail) startUp
    t.ctx.screen.duck = 4 ∧ t.loader.stage = .message 2 2 ⟨[], 0⟩ ∧ t.desks = startUp.desks := by decide +kernel

theorem witness_ImageMessageHasItsOwnersEffect_reads :
    loading.loader.stage = .message 1 2 ⟨[0xA5], busy.lanes.block⟩ ∧ blocksSince busy.lanes.block loading ≤ 20 ∧
    [0xA5] ++ (encodeFull (opCode .readLine) 16 []).tail = encodeFull (opCode .readLine) 16 [] ∧
    argCountFits .readLine 0 = true ∧ (lineOfByte 16).isSome = true ∧
    lineOfByte 17 = none ∧ argCountFits .readStudio 1 = true ∧ (([1] : List Byte).getD 0 0).toNat ≤ 1 ∧
    2 ≤ (([2] : List Byte).getD 0 0).toNat := by decide

/-- The busy part with a TAKE of the head line handed on and waiting to be decided next. -/
def next : State := (ask 0 .take 4 []).withPending [.take .decided 0 4 []]

/-- That state after its step. -/
def stepped : State := after (.take .decided 0 4 []) ((ask 0 .take 4 []).withPending [])

theorem witness_step : step next = .next stepped := rfl

theorem witness_StepsKeepTheReadyQueues : QueueLaw next.lines ∧ DestLaw next.lines := by decide +kernel

theorem witness_StepsKeepTheCapacities : CapacityLaw next.lines := by decide +kernel

theorem witness_StepsKeepTheControllers :
    ∀ d : Desk, ControllerLaw (next.desk d) ∧ ReplyLaw (next.desk d) ∧ HandedLaw (next.desk d) := by decide +kernel

theorem witness_StepsKeepHoldersLive : HolderLaw (withHold 3 (some ⟨2, 0⟩) next) := by decide +kernel

theorem witness_StepsKeepTheRanges :
    RecordLaw next.lines ∧ GainLaw next ∧ RunLaw next ∧ (∀ n : Line, ModeLaw next.paths[n]) ∧ ClockLaw next.lanes ∧
    OutputLaw next.mix ∧ loaderLegal next.loader = true :=
  ⟨by decide +kernel, by decide +kernel, by decide +kernel, by decide +kernel, by decide +kernel, by decide +kernel,
    by decide +kernel⟩

end Sys2Proof.Tests
end

