-- ==== Sys2Proof/Proofs/Talk.lean ====
section
/-! PROOFS. The Talk Arbiter: one rule for the releases it makes in one step (R122 to R125), and one for a command it
decides (R117 to R119). -/

namespace Sys2Proof.Proofs.Talk

open Sys2Proof.Machine Sys2Proof.Claims

/-! ### The words of the statements and the machine's operations -/

theorem noticed_eq_offerMany (ns : List Notice) (s : State) : noticed ns s = offerMany ns s := rfl

theorem noticed_nil (s : State) : noticed [] s = s := offerMany_nil s

theorem releaseHold_eq (n : Line) (cause : TalkCause) (s : State) :
    releaseHold n cause s = offerMany [.talk n none (holder s n) cause] (withHold n none s) := rfl

/-! ### A hold replaced -/

theorem withHold_holds (n k : Line) (h : Option Hold) (s : State) :
    (withHold n h s).talk.holds[k] = if k = n then h else s.talk.holds[k] := by
  simp only [withHold, Fin.getElem_fin, Vector.getElem_set, Fin.ext_iff, eq_comm (a := n.val)]

theorem releaseHold_holds_ne {n k : Line} (hk : k ≠ n) (cause : TalkCause) (s : State) :
    (releaseHold n cause s).talk.holds[k] = s.talk.holds[k] := by
  rw [releaseHold_eq, offerMany_talk, withHold_holds, if_neg hk]

theorem holder_releaseHold_ne {n k : Line} (hk : k ≠ n) (cause : TalkCause) (s : State) :
    holder (releaseHold n cause s) k = holder s k := by
  rw [holder, releaseHold_holds_ne hk, holder]

@[simp] theorem releaseHold_line (n k : Line) (cause : TalkCause) (s : State) :
    (releaseHold n cause s).line k = s.line k := rfl

@[simp] theorem releaseHold_view (n : Line) (cause : TalkCause) (s : State) :
    (releaseHold n cause s).talk.view = s.talk.view := rfl

/-! ### The holds of many lines cleared at once -/

/-- The state with the holds of the lines a test picks cleared, and nothing else changed. -/
def clearHolds (p : Line → Bool) (s : State) : State :=
  { s with talk := { s.talk with holds := Vector.ofFn fun n => if p n then none else s.talk.holds[n] } }

theorem releases_eq_clearHolds (p : Line → Bool) (cause : TalkCause) (s : State) :
    releases p cause s =
      offerMany ((linesWhere p).map fun n => .talk n none (holder s n) cause) (clearHolds p s) := rfl

theorem clearHolds_congr {p q : Line → Bool} (h : ∀ n, p n = q n) (s : State) : clearHolds p s = clearHolds q s := by
  rw [funext h]

theorem clearHolds_of_none {p : Line → Bool} (h : ∀ n, p n = false) (s : State) : clearHolds p s = s := by
  have hv : (Vector.ofFn fun n : Line => if p n then none else s.talk.holds[n]) = s.talk.holds :=
    Vector.ext fun i hi => by simp [h]
  simp only [clearHolds, hv]

/-- A hold cleared before the others is one more line of the test. -/
theorem clearHolds_withHold (p : Line → Bool) (n : Line) (s : State) :
    clearHolds p (withHold n none s) = clearHolds (fun k => k == n || p k) s := by
  have hv : (Vector.ofFn fun k : Line => if p k then none else (withHold n none s).talk.holds[k]) =
      Vector.ofFn fun k : Line => if k == n || p k then none else s.talk.holds[k] := by
    refine congrArg Vector.ofFn (funext fun k => ?_)
    rw [withHold_holds]
    by_cases hk : k = n <;> simp [hk]
  simp only [clearHolds, hv]
  rfl

/-! ### Releases in one step (R122 to R125) -/

/-- The test of a line is not moved by the release of another line's hold. -/
def IsLocal (test : State → Line → Bool) : Prop :=
  ∀ (s : State) (n k : Line) (cause : TalkCause), k ≠ n → test (releaseHold n cause s) k = test s k

/-- The releases along a list clear the picked holds and give one notice each, in the list's order, all judged by the
state before the first release. -/
theorem releaseWhere_list {test : State → Line → Bool} (ht : IsLocal test) (cause : TalkCause) :
    ∀ (l : List Line) (s : State), l.Nodup → releaseWhere test cause l s =
      offerMany ((l.filter (test s)).map fun n => .talk n none (holder s n) cause)
        (clearHolds (fun n => decide (n ∈ l) && test s n) s)
  | [], s, _ => by
    simp only [releaseWhere, List.filter_nil, List.map_nil, offerMany_nil]
    exact (clearHolds_of_none (by simp) s).symm
  | n :: l, s, hl => by
    obtain ⟨hn, hl'⟩ := List.nodup_cons.1 hl
    have hne : ∀ k ∈ l, k ≠ n := fun k hk e => hn (e ▸ hk)
    cases hp : test s n with
    | false =>
      rw [releaseWhere, hp, if_neg Bool.false_ne_true, releaseWhere_list ht cause l s hl',
        List.filter_cons_of_neg (by simp [hp])]
      refine congrArg _ (clearHolds_congr (fun k => ?_) s)
      by_cases hk : k = n <;> simp [hk, hp]
    | true =>
      let r := releaseHold n cause s
      have hfilter : l.filter (test r) = l.filter (test s) :=
        List.filter_congr fun k hk => ht s n k cause (hne k hk)
      have hmap : ((l.filter (test s)).map fun k => Notice.talk k none (holder r k) cause) =
          (l.filter (test s)).map fun k => .talk k none (holder s k) cause :=
        List.map_congr_left fun k hk => by
          rw [holder_releaseHold_ne (hne k (List.mem_of_mem_filter hk))]
      have hclear : clearHolds (fun k => decide (k ∈ l) && test r k) (withHold n none s) =
          clearHolds (fun k => decide (k ∈ n :: l) && test s k) s := by
        rw [clearHolds_withHold]
        refine clearHolds_congr (fun k => ?_) s
        by_cases hk : k = n
        · simp [hk, hp]
        · simp [hk, r, ht s n k cause hk]
      calc releaseWhere test cause (n :: l) s
          = releaseWhere test cause l r := by rw [releaseWhere, hp, if_pos rfl]
        _ = offerMany ((l.filter (test s)).map fun k => .talk k none (holder s k) cause)
              (clearHolds (fun k => decide (k ∈ l) && test r k) r) := by
            rw [releaseWhere_list ht cause l r hl', hfilter, hmap]
        _ = offerMany ((l.filter (test s)).map fun k => .talk k none (holder s k) cause)
              (offerMany [.talk n none (holder s n) cause]
                (clearHolds (fun k => decide (k ∈ l) && test r k) (withHold n none s))) := rfl
        _ = _ := by
            rw [offerMany_append, hclear, List.filter_cons_of_pos hp]
            rfl

theorem mem_allLines (n : Line) : n ∈ allLines := by
  revert n
  decide

/-- The releases the Talk Arbiter makes over all lines are the releases of the statements: one step, judged by the
state before it. -/
theorem releaseWhere_allLines {test : State → Line → Bool} (ht : IsLocal test) (cause : TalkCause) (s : State) :
    releaseWhere test cause allLines s = releases (test s) cause s := by
  rw [releaseWhere_list ht cause allLines s (by decide), releases_eq_clearHolds]
  exact congrArg _ (clearHolds_congr (fun n => by simp [mem_allLines]) s)

/-! ### Link events (R122, R123) -/

theorem holderIs_isLocal (d : Desk) : IsLocal fun s n => holderOf s n == some d := fun s n k cause hk => by
  simp only [holderOf_eq, holder_releaseHold_ne hk]

/-- The re-check of R123, in the words of the statement: rights judged with fallback not in force. -/
theorem restsOnFallback_eq (s : State) (n : Line) :
    restsOnFallback s n =
      (holder s n).any fun e => e != 2 && !(s.talk.view[e] == .live && rightsOf false e (s.line n)) := by
  unfold restsOnFallback
  rw [holderOf_eq]
  cases holder s n with
  | none => rfl
  | some e => simp only [talkRightsWith, viewLive, hasRights_eq, Option.any_some]

theorem restsOnFallback_isLocal : IsLocal restsOnFallback := fun s n k cause hk => by
  simp only [restsOnFallback_eq, holder_releaseHold_ne hk, releaseHold_line, releaseHold_view]

theorem talkLinkLost_eq (d : Desk) (s : State) :
    talkLinkLost d s = releases (fun n => holder s n == some d) .linkLost (setView d .lost s) :=
  releaseWhere_allLines (holderIs_isLocal d) .linkLost (setView d .lost s)

theorem talkLinkLive_eq (d : Desk) (s : State) :
    talkLinkLive d s =
      if d = 2 then releases (restsOnFallback (setView d .live s)) .fallbackEnd (setView d .live s)
      else setView d .live s := by
  rw [← releaseWhere_allLines restsOnFallback_isLocal]
  rfl

theorem exec_linkLostAtTalkArbiter (d : Desk) (s : State) :
    exec (.linkLostAtTalkArbiter d) s = .next (talkLinkLost d (takeLinkEvent .talkArbiter .lost d s)) := rfl

theorem exec_linkLiveAtTalkArbiter (d : Desk) (s : State) :
    exec (.linkLiveAtTalkArbiter d) s = .next (talkLinkLive d (takeLinkEvent .talkArbiter .live d s)) := rfl

/-- Settles O31: a link event's releases, made line by line, are one step judged by the state before them. -/
theorem linkEventsReleaseTalk : Obligations.LinkEventsReleaseTalk := by
  unfold Obligations.LinkEventsReleaseTalk
  intro d s
  constructor
  · rw [exec_linkLostAtTalkArbiter, talkLinkLost_eq]
    rfl
  · rw [exec_linkLiveAtTalkArbiter, talkLinkLive_eq]
    simp only [funext (restsOnFallback_eq _)]
    rfl

/-! ### A decision and its reply (R162, R163) -/

/-- The state after an owner has handed its decision back to the desk's controller. -/
def decided (d : Desk) (op : Op) (line : Byte) (r : Decision) : State :=
  answered d op line r.result r.clamped r.data r.state

@[simp] theorem decided_refuse (d : Desk) (op : Op) (line : Byte) (r : Result) (s : State) :
    decided d op line (refuse r s) = refusedWith d op line r s := rfl

@[simp] theorem decided_taken (d : Desk) (op : Op) (line : Byte) (data : List Byte) (s : State) :
    decided d op line (taken data s) = answered d op line .done false data s := rfl

/-- A decision whose next state is carried on by an operation. -/
def thenState (f : State → State) (r : Decision) : Decision := { r with state := f r.state }

/-- An answer is the command taken off and its place filled. -/
theorem answered_eq (d : Desk) (op : Op) (line : Byte) (r : Result) (clamped : Bool) (data : List Byte) (s : State) :
    answered d op line r clamped data s =
      fillReply (ownerOf op) d ⟨opCode op, line, r, clamped, data⟩ (takeHanded (ownerOf op) d s) := by
  rw [fillReply, takeHanded, setDesk_desk_self, setDesk_setDesk]
  rfl

/-- An owner that decides alike with the command still handed on and taken off: its row is its decision, handed
back. -/
theorem deskCommand_eq_decided {op : Op} {d : Desk} {line : Byte} {args : List Byte} {s : State}
    (hw : Waits s d op line args)
    (ht : decideOp op (.desk d) line args (takeHanded (ownerOf op) d s) =
      thenState (takeHanded (ownerOf op) d) (decideOp op (.desk d) line args s)) :
    deskCommand op .decided d line args s = decided d op line (decideOp op (.desk d) line args s) := by
  rw [deskCommand_decided hw, ownerDecides, ht, decided, answered_eq]
  rfl

theorem noticed_takeHanded (ns : List Notice) (o : Owner) (d : Desk) (s : State) :
    noticed ns (takeHanded o d s) = takeHanded o d (noticed ns s) := by
  rw [noticed_eq_offerMany, noticed_eq_offerMany]
  refine State.eq_of_blocks rfl rfl rfl rfl rfl rfl rfl rfl (fun e => ?_) rfl rfl
  by_cases h : e = d <;> simp [takeHanded, setDesk_desk, h]

/-! ### The checks TALK-ON and TALK-OFF share (R117, R119) -/

theorem isFree_eq_true_iff {st : LineState} : isFree st = true ↔ st = .free := by
  cases st <;> simp [isFree]

theorem presentLine_noLine {line : Byte} {s : State} {body : Line → Decision} (hl : lineOfByte line = none) :
    presentLine line s body = refuse .noLine s := by
  rw [presentLine, hl]

theorem presentLine_eq {line : Byte} {s : State} {body : Line → Decision} {n : Line} (hl : lineOfByte line = some n) :
    presentLine line s body =
      if equipped s n = false then refuse .notEquipped s
      else if (s.line n).state = .free then refuse .noParty s
      else body n := by
  simp only [presentLine, hl, isFree_eq_true_iff]

/-- The shared checks read nothing of what the controllers have handed on. -/
theorem presentLine_takeHanded {line : Byte} {o : Owner} {d : Desk} {s : State} {body body' : Line → Decision}
    (hb : ∀ n, body' n = thenState (takeHanded o d) (body n)) :
    presentLine line (takeHanded o d s) body' = thenState (takeHanded o d) (presentLine line s body) := by
  cases hl : lineOfByte line with
  | none => rw [presentLine_noLine hl, presentLine_noLine hl]; rfl
  | some n =>
    rw [presentLine_eq hl, presentLine_eq hl, hb n]
    simp only [apply_ite (thenState (takeHanded o d))]
    rfl

/-! ### TALK-ON (R117, R118) -/

theorem passesTalkRights_eq_false_iff (s : State) (d : Desk) (n : Line) :
    passesTalkRights s (.desk d) n = false ↔
      mayTalk s d n = false ∧ ¬(isClearing (s.line n).state = true ∧ s.talk.view[d] = .live) := by
  simp [passesTalkRights, talkRights_eq, viewLive]

theorem preempts_iff (d : Desk) (st : LineState) : preempts d st = true ↔ (studioOf st).map deskOf = some d := by
  unfold preempts
  cases studioOf st with
  | none => simp
  | some x => exact beq_iff_eq.trans (eq_comm.trans Option.some_inj.symm)

theorem claimTalk_free {d : Desk} {n : Line} {s : State} (hh : holder s n = none) :
    claimTalk d n s =
      taken [deskByte d] (noticed [.talk n (some d) none .granted] (withHold n (some ⟨d, s.lanes.block⟩) s)) := by
  rw [claimTalk, holderOf_eq, hh]
  rfl

theorem claimTalk_held {d h : Desk} {n : Line} {s : State} (hh : holder s n = some h) :
    claimTalk d n s =
      if h = d then taken [deskByte d] (withHold n (some ⟨d, s.lanes.block⟩) s)
      else if h = 2 ∧ (studioOf (s.line n).state).map deskOf = some d then
        taken [deskByte d]
          (noticed [.talk n (some d) (some h) .preempted] (withHold n (some ⟨d, s.lanes.block⟩) s))
      else refuse .busy s := by
  rw [claimTalk, holderOf_eq, hh]
  simp only [preempts_iff]
  rfl

theorem claimTalk_takeHanded (o : Owner) (d e : Desk) (n : Line) (s : State) :
    claimTalk d n (takeHanded o e s) = thenState (takeHanded o e) (claimTalk d n s) := by
  have hgrant : withHold n (some ⟨d, s.lanes.block⟩) (takeHanded o e s) =
      takeHanded o e (withHold n (some ⟨d, s.lanes.block⟩) s) := rfl
  have hlanes : (takeHanded o e s).lanes = s.lanes := rfl
  have hline : (takeHanded o e s).line n = s.line n := rfl
  cases hh : holder s n with
  | none =>
    rw [claimTalk_free hh, claimTalk_free (s := takeHanded o e s) hh, hlanes, hgrant, noticed_takeHanded]
    rfl
  | some h =>
    rw [claimTalk_held hh, claimTalk_held (s := takeHanded o e s) hh, hlanes, hline, hgrant, noticed_takeHanded]
    simp only [apply_ite (thenState (takeHanded o e))]
    rfl

theorem decideTalkOn_takeHanded (o : Owner) (d e : Desk) (line : Byte) (args : List Byte) (s : State) :
    decideTalkOn (.desk d) line args (takeHanded o e s) =
      thenState (takeHanded o e) (decideTalkOn (.desk d) line args s) :=
  presentLine_takeHanded fun n => by
    simp only [claimTalk_takeHanded, apply_ite (thenState (takeHanded o e))]
    rfl

theorem exec_talkOn_decided {d : Desk} {line : Byte} {s : State} (hw : Waits s d .talkOn line []) :
    exec (.talkOn .decided d line []) s = .next (decided d .talkOn line (decideTalkOn (.desk d) line [] s)) :=
  congrArg _ (deskCommand_eq_decided hw (decideTalkOn_takeHanded _ d d line [] s))

/-! ### TALK-OFF (R119) -/

/-- Step 5 of TALK-OFF, on the holder that stands. -/
theorem decideTalkOff_eq {d : Desk} {line : Byte} {args : List Byte} {s : State} {n : Line}
    (hl : lineOfByte line = some n) :
    decideTalkOff (.desk d) line args s =
      if equipped s n = false then refuse .notEquipped s
      else if (s.line n).state = .free then refuse .noParty s
      else if isClearing (s.line n).state = true then refuse .wrongState s
      else if holder s n = some d then
        taken [] (noticed [.talk n none (some d) .talkOff] (withHold n none s))
      else if holder s n = none ∧ mayTalk s d n = true then taken [] s
      else refuse .notYours s := by
  rw [decideTalkOff, presentLine_eq hl]
  simp only [holderOf_eq, talkRights_eq, releaseHold_eq, noticed_eq_offerMany]
  cases hh : holder s n with
  | none => simp
  | some h => by_cases hd : h = d <;> simp [hd]

theorem decideTalkOff_takeHanded (o : Owner) (d e : Desk) (line : Byte) (args : List Byte) (s : State) :
    decideTalkOff (.desk d) line args (takeHanded o e s) =
      thenState (takeHanded o e) (decideTalkOff (.desk d) line args s) := by
  cases hl : lineOfByte line with
  | none => rw [decideTalkOff, decideTalkOff, presentLine_noLine hl, presentLine_noLine hl]; rfl
  | some n =>
    have hrelease : withHold n none (takeHanded o e s) = takeHanded o e (withHold n none s) := rfl
    rw [decideTalkOff_eq hl, decideTalkOff_eq hl, hrelease, noticed_takeHanded]
    simp only [apply_ite (thenState (takeHanded o e))]
    rfl

theorem exec_talkOff_decided {d : Desk} {line : Byte} {s : State} (hw : Waits s d .talkOff line []) :
    exec (.talkOff .decided d line []) s = .next (decided d .talkOff line (decideTalkOff (.desk d) line [] s)) :=
  congrArg _ (deskCommand_eq_decided hw (decideTalkOff_takeHanded _ d d line [] s))

/-- Settles O30, by the line named, then the checks in their order, then the holder. -/
theorem talkIsClaimedAndReleased : Obligations.TalkIsClaimedAndReleased := by
  unfold Obligations.TalkIsClaimedAndReleased
  intro d line s
  refine ⟨fun hw => ?_, fun hw => ?_⟩
  · rw [exec_talkOn_decided hw]
    cases hl : lineOfByte line with
    | none => rw [decideTalkOn, presentLine_noLine hl, decided_refuse]
    | some n =>
      rw [decideTalkOn, presentLine_eq hl]
      simp only [passesTalkRights_eq_false_iff, apply_ite (decided d .talkOn line), decided_refuse]
      cases hh : holder s n with
      | none =>
        simp only [claimTalk_free hh, decided_taken]
        rfl
      | some h =>
        simp only [claimTalk_held hh, apply_ite (decided d .talkOn line), decided_taken, decided_refuse, noticed_nil]
        rfl
  · rw [exec_talkOff_decided hw]
    cases hl : lineOfByte line with
    | none => rw [decideTalkOff, presentLine_noLine hl, decided_refuse]
    | some n =>
      rw [decideTalkOff_eq hl]
      simp only [apply_ite (decided d .talkOff line), decided_taken, decided_refuse]

end Sys2Proof.Proofs.Talk
end

section
/-! PROOFS. What every owner's decision shares (R122, R162, R163): a desk command's row is its moments, and a decision
reads nothing of the command's own place on its controller's list, so its row is the decision handed back. -/

namespace Sys2Proof.Proofs.Decisions

open Sys2Proof.Machine Sys2Proof.Claims Sys2Proof.Proofs.Talk

/-! ### Containers -/

/-- The element of a vector given place by place. -/
theorem ofFn_get {α : Type} {n : Nat} (f : Fin n → α) (i : Fin n) : (Vector.ofFn f)[i] = f i := by
  simp only [Fin.getElem_fin, Vector.getElem_ofFn, Fin.eta]

/-- The element of a vector with one element replaced. -/
theorem set_get {α : Type} {n : Nat} (v : Vector α n) (i j : Fin n) (x : α) :
    (v.set i x)[j] = if j = i then x else v[j] := by
  simp only [Fin.getElem_fin, Vector.getElem_set, Fin.ext_iff, eq_comm (a := i.val)]

/-! ### Steps that change the controllers alone -/

/-- The controllers are all that differs between the two states. -/
def DesksOnly (s t : State) : Prop := t = s.withDesks t.desks

theorem DesksOnly.refl (s : State) : DesksOnly s s := rfl

theorem DesksOnly.trans {s t u : State} (h : DesksOnly s t) (h' : DesksOnly t u) : DesksOnly s u := by
  unfold DesksOnly at *
  rw [h', h]
  rfl

theorem desksOnly_setDesk (d : Desk) (c : Controller) (s : State) : DesksOnly s (setDesk d c s) := rfl

/-- States that differ in the controllers alone are equal when these agree one by one. -/
theorem DesksOnly.eq_of_desk {s t u : State} (ht : DesksOnly s t) (hu : DesksOnly s u)
    (h : ∀ e : Desk, t.desk e = u.desk e) : t = u := by
  have hd : t.desks = u.desks := Vector.ext fun i hi => h ⟨i, hi⟩
  rw [ht, hu, hd]

/-! ### The row of a desk command -/

theorem exec_commandOf {op : Op} (h : ownerOf op ≠ .controller) (m : Moment) (d : Desk) (line : Byte)
    (args : List Byte) (s : State) :
    exec (commandOf op m d line args) s = .next (deskCommand op m d line args s) := by
  cases op with
  | nop | linkStatus | setMask => exact absurd rfl h
  | _ => rfl

/-- The arrival of every command of the catalogue is a good message of its code (R162). -/
theorem exec_commandOf_arrives (op : Op) (d : Desk) (line : Byte) (args : List Byte) (s : State) :
    exec (commandOf op .arrives d line args) s = .next (messageArrives d (opCode op) line args s) := by
  cases op <;> rfl

/-! ### A command taken off its controller's list -/

section TakeHanded

variable {o : Owner} {d : Desk} {s : State}

@[simp] theorem takeHanded_lines : (takeHanded o d s).lines = s.lines := rfl
@[simp] theorem takeHanded_line (n : Line) : (takeHanded o d s).line n = s.line n := rfl
@[simp] theorem takeHanded_ctx : (takeHanded o d s).ctx = s.ctx := rfl
@[simp] theorem takeHanded_loader : (takeHanded o d s).loader = s.loader := rfl

@[simp] theorem takeHanded_strap (e : Desk) : ((takeHanded o d s).desk e).strap = (s.desk e).strap := by
  by_cases h : e = d <;> simp [takeHanded, setDesk_desk, h]

@[simp] theorem refusalAt_takeHanded (op : Op) (snd : Sender) (n : Line) :
    refusalAt op snd n (takeHanded o d s) = refusalAt op snd n s := rfl

theorem commit_takeHanded (lt : LineTable) : commit lt (takeHanded o d s) = takeHanded o d (commit lt s) := by
  refine State.eq_of_blocks rfl rfl rfl rfl rfl rfl rfl rfl (fun e => ?_) rfl rfl
  by_cases h : e = d <;> simp [takeHanded, setDesk_desk, h]

/-! ### Decisions made with the command taken off -/

@[simp] theorem thenState_refuse (f : State → State) (r : Result) (s : State) :
    thenState f (refuse r s) = refuse r (f s) := rfl

@[simp] theorem thenState_taken (f : State → State) (data : List Byte) (s : State) :
    thenState f (taken data s) = taken data (f s) := rfl

@[simp] theorem thenState_takenClamped (f : State → State) (c : Bool) (data : List Byte) (s : State) :
    thenState f (takenClamped c data s) = takenClamped c data (f s) := rfl

theorem lineCommand_takeHanded {op : Op} {snd : Sender} {line : Byte} {body body' : Line → Decision}
    (hb : ∀ n, body' n = thenState (takeHanded o d) (body n)) :
    lineCommand op snd line (takeHanded o d s) body' = thenState (takeHanded o d) (lineCommand op snd line s body) := by
  rcases lineCommand_cases op snd line s body with ⟨r, h⟩ | ⟨n, hn, hr, h⟩
  · cases hl : lineOfByte line with
    | none => rw [lineCommand_noLine hl, lineCommand_noLine hl]; rfl
    | some n =>
      cases hr : refusalAt op snd n s with
      | none => rw [lineCommand_passes hl hr, lineCommand_passes hl (s := takeHanded o d s) hr, hb n]
      | some r' => rw [lineCommand_refused hl hr, lineCommand_refused hl (s := takeHanded o d s) hr]; rfl
  · rw [h, lineCommand_passes hn (s := takeHanded o d s) hr, hb n]

theorem settingCommand_takeHanded {op : Op} {snd : Sender} {line : Byte} {body body' : Line → Decision}
    (hb : ∀ n, body' n = thenState (takeHanded o d) (body n)) :
    settingCommand op snd line (takeHanded o d s) body' =
      thenState (takeHanded o d) (settingCommand op snd line s body) :=
  lineCommand_takeHanded fun n => by
    simp only [takeHanded_line, hb, apply_ite (thenState (takeHanded o d)), thenState_refuse]

theorem joinGroup_takeHanded (g : Group) (st : LineState) (n : Line) (data : List Byte) :
    joinGroup g st n data (takeHanded o d s) = thenState (takeHanded o d) (joinGroup g st n data s) := by
  simp only [joinGroup, takeHanded_lines, commit_takeHanded, apply_ite (thenState (takeHanded o d)), thenState_refuse,
    thenState_taken]

theorem joinFromQueue_takeHanded (g : Group) (st : LineState) (n : Line) (data : List Byte) :
    joinFromQueue g st n data (takeHanded o d s) = thenState (takeHanded o d) (joinFromQueue g st n data s) := by
  simp only [joinFromQueue, takeHanded_lines, commit_takeHanded, apply_ite (thenState (takeHanded o d)),
    thenState_refuse, thenState_taken]

theorem leaveInto_takeHanded (g : Group) (t : Dest) (n : Line) (data : List Byte) :
    leaveInto g t n data (takeHanded o d s) = thenState (takeHanded o d) (leaveInto g t n data s) := by
  simp only [leaveInto, takeHanded_lines, commit_takeHanded, apply_ite (thenState (takeHanded o d)),
    thenState_refuse, thenState_taken]

theorem moveToTail_takeHanded (n : Line) (own named : Studio) :
    moveToTail n own named (takeHanded o d s) = thenState (takeHanded o d) (moveToTail n own named s) := by
  simp only [moveToTail, takeHanded_lines, commit_takeHanded, apply_ite (thenState (takeHanded o d)),
    thenState_refuse, thenState_taken]
  rfl

theorem dropMember_takeHanded (n : Line) :
    dropMember n (takeHanded o d s) = thenState (takeHanded o d) (dropMember n s) := by
  simp only [dropMember, takeHanded_line]
  split <;> simp only [takeHanded_lines, commit_takeHanded, thenState_taken]

theorem takeLine_takeHanded (x : Studio) (n : Line) :
    takeLine x n (takeHanded o d s) = thenState (takeHanded o d) (takeLine x n s) := by
  simp only [takeLine, takeHanded_line]
  split <;> simp only [joinGroup_takeHanded, joinFromQueue_takeHanded, leaveInto_takeHanded, takeHanded_lines, commit_takeHanded,
    apply_ite (thenState (takeHanded o d)), thenState_refuse, thenState_taken]

theorem contextCommand_takeHanded {snd : Sender} {c : Context} {body body' : Decision}
    (hb : body' = thenState (takeHanded o d) body) :
    contextCommand snd c (takeHanded o d s) body' = thenState (takeHanded o d) (contextCommand snd c s body) := by
  have hm : maySetContext (takeHanded o d s) snd c = maySetContext s snd c := by
    cases snd <;> simp only [maySetContext, takeHanded_strap]
  simp only [contextCommand, hm, hb, apply_ite (thenState (takeHanded o d)), thenState_refuse]

/-- Every owner decides a command taken off its controller's list as it decides it on the list. -/
theorem decideOp_takeHanded {op : Op} (h : ownerOf op ≠ .controller) (e : Desk) (line : Byte) (args : List Byte) :
    decideOp op (.desk e) line args (takeHanded o d s) =
      thenState (takeHanded o d) (decideOp op (.desk e) line args s) := by
  cases op with
  | nop | linkStatus | setMask => exact absurd rfl h
  | answer =>
    exact lineCommand_takeHanded fun n => by
      simp only [takeHanded_line]
      split <;> simp only [joinGroup_takeHanded, thenState_refuse]
  | hold =>
    exact lineCommand_takeHanded fun n => by
      simp only [takeHanded_line]
      split <;> simp only [takeHanded_lines, commit_takeHanded, thenState_refuse, thenState_taken]
  | queue =>
    simp only [decideOp, decideQueue]
    split
    · rfl
    · exact lineCommand_takeHanded fun n => by
        simp only [takeHanded_line]
        split <;> simp only [takeHanded_lines, commit_takeHanded, moveToTail_takeHanded,
          apply_ite (thenState (takeHanded o d)), thenState_refuse, thenState_taken] <;> rfl
  | promote =>
    exact lineCommand_takeHanded fun n => by
      simp only [takeHanded_line]
      split <;> simp only [takeHanded_lines, commit_takeHanded, thenState_refuse, thenState_taken]
  | give =>
    simp only [decideOp, decideGive]
    split
    · rfl
    · exact lineCommand_takeHanded fun n => by
        simp only [takeHanded_line]
        split <;> simp only [moveToTail_takeHanded, apply_ite (thenState (takeHanded o d)), thenState_refuse]
  | take =>
    exact lineCommand_takeHanded fun n => by
      split <;> simp only [takeLine_takeHanded, thenState_refuse]
  | takeNext =>
    simp only [decideOp, decideTakeNext, takeHanded_lines]
    split
    · rfl
    · split
      · rfl
      · simp only [refusalAt_takeHanded, takeLine_takeHanded]
        split <;> rfl
  | privateTalk =>
    exact lineCommand_takeHanded fun n => by
      simp only [takeHanded_line]
      split <;> simp only [joinGroup_takeHanded, joinFromQueue_takeHanded, leaveInto_takeHanded,
        apply_ite (thenState (takeHanded o d)), thenState_refuse]
  | park =>
    exact lineCommand_takeHanded fun n => by
      simp only [takeHanded_line]
      split <;> simp only [parkLine, takeHanded_lines, commit_takeHanded, apply_ite (thenState (takeHanded o d)),
        thenState_refuse, thenState_taken]
  | drop =>
    exact lineCommand_takeHanded fun n => by
      simp only [takeHanded_line, dropMember_takeHanded]
      split <;> simp only [takeHanded_lines, commit_takeHanded, thenState_refuse, thenState_taken]
  | talkOn => exact decideTalkOn_takeHanded o e d line args s
  | talkOff => exact decideTalkOff_takeHanded o e d line args s
  | setLevel =>
    simp only [decideOp, decideSetLevel]
    split
    · exact settingCommand_takeHanded fun n => by
        simp only [takeHanded_line, takeHanded_lines, commit_takeHanded, thenState_takenClamped]
    · rfl
  | setReturn =>
    simp only [decideOp, decideSetReturn]
    split
    · exact settingCommand_takeHanded fun n => by
        simp only [takeHanded_line, takeHanded_lines, commit_takeHanded, thenState_takenClamped]
    · rfl
  | setLabel =>
    simp only [decideOp, decideSetLabel]
    split
    · exact settingCommand_takeHanded fun n => by
        simp only [takeHanded_line, takeHanded_lines, commit_takeHanded, thenState_takenClamped]
    · rfl
  | setHome =>
    simp only [decideOp, decideSetHome]
    split
    · rfl
    · exact lineCommand_takeHanded fun n => by
        simp only [takeHanded_line]
        split <;> simp only [takeHanded_lines, commit_takeHanded, thenState_refuse, thenState_taken]
  | forcePath =>
    simp only [decideOp, decideForcePath]
    split
    · rfl
    · exact settingCommand_takeHanded fun n => by
        simp only [apply_ite (thenState (takeHanded o d)), thenState_refuse, thenState_taken]
        rfl
  | setConf =>
    simp only [decideOp, decideSetConf, takeHanded_ctx]
    split
    · split
      · split
        · rfl
        · exact contextCommand_takeHanded rfl
      · rfl
    · rfl
  | setCtxGain =>
    simp only [decideOp, decideSetCtxGain, takeHanded_ctx]
    split
    · split
      · rfl
      · split
        · rfl
        · exact contextCommand_takeHanded rfl
    · rfl
  | setDuck =>
    simp only [decideOp, decideSetDuck]
    split
    · split
      · rfl
      · exact contextCommand_takeHanded rfl
    · rfl
  | setTalkGain =>
    simp only [decideOp, decideSetTalkGain, takeHanded_strap]
    split
    · split
      · rfl
      · simp only [apply_ite (thenState (takeHanded o d)), thenState_refuse, thenState_takenClamped]
        rfl
    · rfl
  | readLine =>
    simp only [decideOp, decideReadLine]
    split <;> rfl
  | readStudio =>
    simp only [decideOp, decideReadStudio]
    split <;> rfl
  | readMeters =>
    simp only [decideOp, decideReadMeters]
    split <;> rfl
  | mapInput =>
    simp only [decideOp, decideMapInput]
    split
    · split
      · split
        · rfl
        · simp only [apply_ite (thenState (takeHanded o d)), thenState_refuse, thenState_taken]
          rfl
      · rfl
    · rfl
  | mapOutput =>
    simp only [decideOp, decideMapOutput]
    split
    · split <;> rfl
    · rfl
  | setPathTiming =>
    simp only [decideOp, decideSetPathTiming]
    split
    · split
      · rfl
      · simp only [apply_ite (thenState (takeHanded o d)), thenState_refuse, thenState_takenClamped]
        rfl
    · rfl
  | setStemTiming =>
    simp only [decideOp, decideSetStemTiming, takeHanded_ctx]
    split
    · split
      · exact contextCommand_takeHanded rfl
      · rfl
    · rfl
  | setClock =>
    simp only [decideOp, decideSetClock]
    split <;> rfl
  | setTalkTimeout =>
    simp only [decideOp, decideSetTalkTimeout]
    split
    · split <;> rfl
    · rfl
  | loadConfig =>
    simp only [decideOp, decideLoadConfig, takeHanded_loader, apply_ite (thenState (takeHanded o d)), thenState_refuse,
      thenState_taken]
    rfl
  -- RECALL; its constructor's name is a reserved word of Mathlib.
  | _ =>
    exact lineCommand_takeHanded fun n => by
      simp only [takeHanded_line]
      split <;> simp only [joinFromQueue_takeHanded, apply_ite (thenState (takeHanded o d)), thenState_refuse]

end TakeHanded

/-- The row of a command that waits for its owner is the owner's decision, handed back (R162, R163). -/
theorem exec_decided {op : Op} (h : ownerOf op ≠ .controller) {d : Desk} {line : Byte} {args : List Byte} {s : State}
    (hw : Waits s d op line args) :
    exec (commandOf op .decided d line args) s = .next (decided d op line (decideOp op (.desk d) line args s)) := by
  rw [exec_commandOf h, deskCommand_eq_decided hw (decideOp_takeHanded h d line args)]

end Sys2Proof.Proofs.Decisions
end

section
/-! PROOFS. A desk's controller (chapter 9, R171 to R173): what a good message does to it, in one equation, and from it
the checks, the answers, the discarding and the handing on. -/

namespace Sys2Proof.Proofs.Links

open Sys2Proof.Machine Sys2Proof.Claims Sys2Proof.Proofs.Talk Sys2Proof.Proofs.Decisions

/-! ### A good message (R159, R163, R166, R167) -/

/-- The sending desk's controller after a good message, with the places, the flag and the items it adds. -/
def afterMessage (s : State) (places : List Place) (flag : Bool) (more : List (Owner × Handed)) (c : Controller) :
    Controller :=
  { c with
    assembler := .hunt
    gap := 0
    liveness := 0
    link := .live
    offered := if c.link = .lost then [] else c.offered
    discarded := c.discarded || flag
    replies := c.replies ++ places
    handed := c.handed ++ (if c.link = .lost then [(.talkArbiter, .live), (.lineTable, .live)] else []) ++ more
    notices := c.notices ++ (if c.link = .lost ∧ c.mask.getLsbD 9 = true then [⟨s.lanes.block, helloNow s⟩] else []) }

theorem messageTaken_desk (d e : Desk) (places : List Place) (flag : Bool) (more : List (Owner × Handed)) (s : State) :
    (messageTaken d places flag more s).desk e =
      if e = d then afterMessage s places flag more (s.desk e)
      else if (s.desk d).link = .lost then { s.desk e with offered := (s.desk e).offered ++ [.link d .live] }
      else s.desk e :=
  ofFn_get _ e

theorem helloNotice_eq (s : State) : helloNotice s = helloNow s := by
  have hf : ∀ st : LineState, (!isFree st) = (st != .free) := fun st => by cases st <;> rfl
  simp only [helloNotice, helloNow, linesWhere, hf, State.line]

/-- The HELLO notice enters a queue that is empty with no overflow counted when its mask bit is on (R172, R173). -/
theorem enterNotice_of_empty {c : Controller} (block : BlockNo) (n : Notice) (hl : c.link = .live)
    (hn : c.notices = []) (ho : c.overflow = 0) :
    enterNotice block n c = if maskBit c.mask n = true then { c with notices := [⟨block, n⟩] } else c := by
  simp [enterNotice, hl, hn, ho, Config.noticePlaces]
  cases maskBit c.mask n <;> rfl

/-- The link of a controller that is not LIVE is LOST. -/
theorem live_of_ne_lost {c : Controller} (h : c.link ≠ .lost) : c.link = .live := by
  cases hl : c.link with
  | lost => exact absurd hl h
  | live => rfl

theorem desksOnly_messageTaken (d : Desk) (places : List Place) (flag : Bool) (more : List (Owner × Handed))
    (s : State) : DesksOnly s (messageTaken d places flag more s) := rfl

theorem desksOnly_backToHunt (d : Desk) (s : State) : DesksOnly s (backToHunt d s) := rfl

theorem desksOnly_markAlive (d : Desk) (s : State) : DesksOnly s (markAlive d s) := by
  unfold markAlive
  split <;> rfl

/-- A LOST link's controller made LIVE, with its first notice taken (R167, R172, R173). -/
theorem enterNotice_wentLive {c : Controller} (block : BlockNo) (n : Notice) (hn : c.notices = [])
    (ho : c.overflow = 0) :
    enterNotice block n { handLink .live c with link := .live, offered := [] } =
      { c with
        link := .live
        offered := []
        handed := c.handed ++ [(.talkArbiter, .live), (.lineTable, .live)]
        notices := if maskBit c.mask n = true then [⟨block, n⟩] else [] } := by
  have hen := enterNotice_of_empty (c := { handLink .live c with link := .live, offered := [] }) block n rfl hn ho
  by_cases h : maskBit c.mask n = true
  · rw [if_pos h]
    exact hen.trans (if_pos h)
  · rw [if_neg h, ← hn]
    exact hen.trans (if_neg h)

/-- A link with an empty queue goes LIVE: its own controller, and the LINK notice to the others (R167, R173). -/
theorem goLive_desk {d : Desk} {s : State} (hn : (s.desk d).notices = []) (ho : (s.desk d).overflow = 0) (e : Desk) :
    (goLive d s).desk e =
      if e = d then { s.desk d with
        link := .live
        offered := []
        handed := (s.desk d).handed ++ [(.talkArbiter, .live), (.lineTable, .live)]
        notices := if (s.desk d).mask.getLsbD 9 = true then [⟨s.lanes.block, helloNow s⟩] else [] }
      else { s.desk e with offered := (s.desk e).offered ++ [.link d .live] } := by
  rw [goLive, offerOthers_desk, setDesk_desk, enterNotice_wentLive _ _ hn ho, helloNotice_eq]
  by_cases he : e = d
  · rw [if_pos he, if_pos he, if_pos he]; rfl
  · rw [if_neg he, if_neg he, if_neg he]

/-- The liveness effects of a good message are the message taken with nothing else. -/
theorem markAlive_eq {d : Desk} {s : State} (h : LostIsEmpty (s.desk d)) :
    markAlive d (backToHunt d s) = messageTaken d [] false [] s := by
  refine ((desksOnly_backToHunt d s).trans (desksOnly_markAlive d _)).eq_of_desk
    (desksOnly_messageTaken d [] false [] s) fun e => ?_
  let c : Controller := { s.desk d with assembler := .hunt, gap := 0, liveness := 0 }
  have halive : markAlive d (backToHunt d s) =
      if (s.desk d).link = .lost then goLive d (setDesk d c s) else setDesk d c s := by
    simp only [markAlive, backToHunt, setDesk_desk_self, setDesk_setDesk, c]
  rw [halive, messageTaken_desk]
  by_cases hl : (s.desk d).link = .lost
  · obtain ⟨hn, ho⟩ := h hl
    have hd : (setDesk d c s).desk d = c := setDesk_desk_self d c s
    rw [if_pos hl, if_pos hl, goLive_desk (by rw [hd]; exact hn) (by rw [hd]; exact ho), hd]
    by_cases he : e = d
    · subst he
      simp [afterMessage, hl, hn, helloNow, c]
    · simp [he, setDesk_desk]
  · rw [if_neg hl, if_neg hl, setDesk_desk]
    by_cases he : e = d
    · subst he
      simp [afterMessage, live_of_ne_lost hl, c]
    · simp [he]

/-! ### What is added to a message taken (R162, R163) -/

theorem messageTaken_desk_self (d : Desk) (places : List Place) (flag : Bool) (more : List (Owner × Handed))
    (s : State) : (messageTaken d places flag more s).desk d = afterMessage s places flag more (s.desk d) := by
  rw [messageTaken_desk, if_pos rfl]

/-- A change of the sending desk's controller after a message taken, when it gives what another message taken would. -/
theorem setDesk_messageTaken {d : Desk} {s : State} {places places' : List Place} {flag flag' : Bool}
    {more more' : List (Owner × Handed)} {c : Controller} (hc : c = afterMessage s places' flag' more' (s.desk d)) :
    setDesk d c (messageTaken d places flag more s) = messageTaken d places' flag' more' s := by
  refine ((desksOnly_messageTaken d places flag more s).trans (desksOnly_setDesk d c _)).eq_of_desk
    (desksOnly_messageTaken d places' flag' more' s) fun e => ?_
  rw [setDesk_desk, messageTaken_desk, messageTaken_desk]
  by_cases he : e = d
  · subst he
    rw [if_pos rfl, if_pos rfl, hc]
  · rw [if_neg he, if_neg he, if_neg he]

theorem addPlace_messageTaken (d : Desk) (p : Place) (s : State) :
    addPlace d p (messageTaken d [] false [] s) = messageTaken d [p] false [] s :=
  setDesk_messageTaken (by simp [messageTaken_desk_self, afterMessage])

theorem discardCommand_messageTaken (d : Desk) (s : State) :
    discardCommand d (messageTaken d [] false [] s) = messageTaken d [] true [] s :=
  setDesk_messageTaken (by simp [messageTaken_desk_self, afterMessage])

theorem handOn_messageTaken (op : Op) (d : Desk) (line : Byte) (args : List Byte) (s : State) :
    handOn op d line args (messageTaken d [] false [] s) =
      messageTaken d [.waiting (ownerOf op)] false [(ownerOf op, .command op line args)] s :=
  setDesk_messageTaken (by simp [messageTaken_desk_self, afterMessage])

theorem repliesFull_messageTaken (d : Desk) (s : State) :
    repliesFull ((messageTaken d [] false [] s).desk d) = true ↔ 16 ≤ (s.desk d).replies.length := by
  simp [repliesFull, messageTaken_desk_self, afterMessage, Config.replyPlaces]

/-! ### The arrival of a good message (R162, R163) -/

theorem opOfCode_opCode (op : Op) : opOfCode (opCode op) = some op := by
  cases op <;> rfl

theorem opOfCode_eq_none {code : Byte} (h : ∀ op ∈ allOps, opCode op ≠ code) : opOfCode code = none :=
  List.find?_eq_none.2 fun op hop => by simpa using h op hop

theorem messageArrives_discarded {d : Desk} {code line : Byte} {args : List Byte} {s : State}
    (h : LostIsEmpty (s.desk d)) (hf : 16 ≤ (s.desk d).replies.length) :
    messageArrives d code line args s = messageTaken d [] true [] s := by
  simp only [messageArrives, markAlive_eq h, (repliesFull_messageTaken d s).2 hf, if_true, discardCommand_messageTaken]

theorem messageArrives_unknown {d : Desk} {code line : Byte} {args : List Byte} {s : State}
    (h : LostIsEmpty (s.desk d)) (hf : (s.desk d).replies.length < 16) (hc : opOfCode code = none) :
    messageArrives d code line args s = messageTaken d [.ready ⟨code, line, .unknown, false, []⟩] false [] s := by
  have hr := mt (repliesFull_messageTaken d s).1 (Nat.not_le.2 hf)
  simp only [messageArrives, markAlive_eq h, hr, hc, addPlace_messageTaken]
  rfl

theorem messageArrives_known {d : Desk} {op : Op} {line : Byte} {args : List Byte} {s : State}
    (h : LostIsEmpty (s.desk d)) (hf : (s.desk d).replies.length < 16) :
    messageArrives d (opCode op) line args s = checkCommand op d line args (messageTaken d [] false [] s) := by
  have hr := mt (repliesFull_messageTaken d s).1 (Nat.not_le.2 hf)
  simp only [messageArrives, markAlive_eq h, hr, opOfCode_opCode]
  rfl

/-- A command that fails one of the controller's checks is answered with it. -/
theorem checkCommand_refused {d : Desk} {op : Op} {line : Byte} {args : List Byte} {s : State} {r : Result}
    (hr : controllerRefusal op args d (messageTaken d [] false [] s) = some r) :
    checkCommand op d line args (messageTaken d [] false [] s) =
      messageTaken d [.ready ⟨opCode op, line, r, false, []⟩] false [] s := by
  simp only [checkCommand, hr, addPlace_messageTaken]
  rfl

theorem checkCommand_handedOn {d : Desk} {op : Op} {line : Byte} {args : List Byte} {s : State}
    (hr : controllerRefusal op args d (messageTaken d [] false [] s) = none) (ho : ownerOf op ≠ .controller) :
    checkCommand op d line args (messageTaken d [] false [] s) =
      messageTaken d [.waiting (ownerOf op)] false [(ownerOf op, .command op line args)] s := by
  simp only [checkCommand, hr, if_neg ho, handOn_messageTaken]

/-- A command the controller answers itself without a change of its own. -/
theorem checkCommand_answered {d : Desk} {op : Op} {line : Byte} {args : List Byte} {s : State} {r : Decision}
    (hr : controllerRefusal op args d (messageTaken d [] false [] s) = none) (ho : ownerOf op = .controller)
    (hd : decideOp op (.desk d) line args (messageTaken d [] false [] s) = r)
    (hs : r.state = messageTaken d [] false [] s) :
    checkCommand op d line args (messageTaken d [] false [] s) =
      messageTaken d [.ready (replyOf op line r)] false [] s := by
  simp only [checkCommand, hr, if_pos ho, answerSelf, hd, hs, addPlace_messageTaken]

/-! ### The controller's checks (R162) -/

theorem passesWhileLoading_iff (op : Op) :
    passesWhileLoading op = true ↔ op ∈ [Op.nop, .readLine, .readStudio, .readMeters, .linkStatus] := by
  cases op <;> decide

theorem isConfiguration_iff (op : Op) :
    isConfiguration op = true ↔ op ∈ [Op.mapInput, .mapOutput, .setPathTiming, .setStemTiming, .setClock,
      .setTalkTimeout, .loadConfig] := by
  cases op <;> decide

theorem isRunning_eq_false_iff (l : Loader) : isRunning l = false ↔ l.stage ≠ .running := by
  simp [isRunning]

/-- Checks 2 to 4 in the words of the statements, on the state a good message leaves. -/
theorem controllerRefusal_messageTaken (op : Op) (d : Desk) (args : List Byte) (s : State) :
    controllerRefusal op args d (messageTaken d [] false [] s) =
      if argCountFits op args.length = false then some .badValue
      else if s.loader.stage ≠ .running ∧ op ∉ [Op.nop, .readLine, .readStudio, .readMeters, .linkStatus] then
        some .starting
      else if op ∈ [Op.mapInput, .mapOutput, .setPathTiming, .setStemTiming, .setClock, .setTalkTimeout,
          .loadConfig] ∧ (s.desk d).strap = false then
        some .notPermitted
      else none := by
  have hstrap : ((messageTaken d [] false [] s).desk d).strap = (s.desk d).strap := by
    rw [messageTaken_desk_self]; rfl
  have hloader : (messageTaken d [] false [] s).loader = s.loader := rfl
  simp only [controllerRefusal, hstrap, hloader, isRunning_eq_false_iff, isConfiguration_iff, ← passesWhileLoading_iff,
    Bool.not_eq_true]

/-- Settles O4: the arrival is the message taken, then the checks in their order. -/
theorem goodCommandIsCheckedAndHandedOn : Obligations.GoodCommandIsCheckedAndHandedOn := by
  unfold Obligations.GoodCommandIsCheckedAndHandedOn
  intro op d line args s h hf
  rw [exec_commandOf_arrives, messageArrives_known h hf]
  refine ⟨fun r hr => ?_, fun hr ho => ?_, ?_⟩
  · rw [checkCommand_refused ((controllerRefusal_messageTaken op d args s).trans hr)]
  · rw [checkCommand_handedOn ((controllerRefusal_messageTaken op d args s).trans hr) ho]
  · exact congrArg _ (messageArrives_known h hf)

/-- Settles O5: NOP passes every check, and the controller's answer changes nothing. -/
theorem nopIsAnsweredDone : Obligations.NopIsAnsweredDone := by
  unfold Obligations.NopIsAnsweredDone
  intro d line s h
  refine (exec_commandOf_arrives .nop d line [] s).trans (congrArg _ ?_)
  by_cases hf : (s.desk d).replies.length < 16
  · have hr : controllerRefusal .nop [] d (messageTaken d [] false [] s) = none := by
      rw [controllerRefusal_messageTaken]
      simp [argCountFits]
    rw [if_pos hf, messageArrives_known h hf, checkCommand_answered hr rfl rfl rfl]
    rfl
  · rw [if_neg hf, messageArrives_discarded h (Nat.not_lt.1 hf)]

/-- Settles O6. -/
theorem unknownCodeIsAnsweredUnknown : Obligations.UnknownCodeIsAnsweredUnknown := by
  unfold Obligations.UnknownCodeIsAnsweredUnknown
  intro d code line args s h hf hc
  exact congrArg _ (messageArrives_unknown h hf (opOfCode_eq_none hc))

/-- Settles O7: the row of the discarding, every command of the catalogue and every code come to the same. -/
theorem fullReplyQueueDiscardsCommand : Obligations.FullReplyQueueDiscardsCommand := by
  unfold Obligations.FullReplyQueueDiscardsCommand
  intro d s h hf
  refine ⟨?_, fun op line args => ?_, fun code line args => ?_⟩
  · have hr : repliesFull (s.desk d) = true := by simp [repliesFull, hf, Config.replyPlaces]
    rw [← discardCommand_messageTaken, ← markAlive_eq h]
    exact congrArg _ (if_pos hr)
  · rw [exec_commandOf_arrives, messageArrives_discarded h hf.ge]
  · exact congrArg _ (messageArrives_discarded h hf.ge)

/-! ### What the controller answers itself (R157, R171, R176) -/

theorem wordOf_lt_2048_iff (hi lo : Byte) : wordOf hi lo < 2048 ↔ hi.toNat < 8 := by
  unfold wordOf
  have := lo.isLt
  omega

theorem ofNat_wordOf (hi lo : Byte) : BitVec.ofNat 16 (wordOf hi lo) = hi ++ lo := by
  apply BitVec.eq_of_toNat_eq
  have hh := hi.isLt
  have hl := lo.isLt
  rw [BitVec.toNat_ofNat, BitVec.toNat_append, wordOf, Nat.shiftLeft_eq, ← Nat.shiftLeft_eq,
    ← Nat.shiftLeft_add_eq_or_of_lt hl, Nat.shiftLeft_eq]
  omega

/-- A message taken with a place is the message taken without, and the place put into its controller. -/
theorem messageTaken_place (d : Desk) (p : Place) (s : State) :
    messageTaken d [p] false [] s =
      setDesk d (afterMessage s [p] false [] (s.desk d)) (messageTaken d [] false [] s) :=
  (setDesk_messageTaken rfl).symm

/-- Settles O8: the mask is replaced before the reply takes its place, in the same controller. -/
theorem setMaskReplacesTheMask : Obligations.SetMaskReplacesTheMask := by
  unfold Obligations.SetMaskReplacesTheMask
  intro d line hi lo s h hf hrun
  have hx : exec (.setMask d line [hi, lo]) s =
      .next (checkCommand .setMask d line [hi, lo] (messageTaken d [] false [] s)) :=
    (exec_commandOf_arrives .setMask d line [hi, lo] s).trans (congrArg _ (messageArrives_known h hf))
  have hr : controllerRefusal .setMask [hi, lo] d (messageTaken d [] false [] s) = none := by
    rw [controllerRefusal_messageTaken]
    simp [argCountFits, hrun]
  refine ⟨fun hhi => ?_, fun hhi => ?_⟩
  · let p : Place := .ready ⟨0x48, line, .done, false, [hi, lo]⟩
    let t := messageTaken d [] false [] s
    have hw := (wordOf_lt_2048_iff hi lo).2 hhi
    have hanswer : checkCommand .setMask d line [hi, lo] t =
        addPlace d p (setDesk d { t.desk d with mask := hi ++ lo } t) := by
      simp only [checkCommand, hr, answerSelf, decideOp, decideSetMask, hw, if_true, ofNat_wordOf, t]
      rfl
    have hplace : addPlace d p (setDesk d { t.desk d with mask := hi ++ lo } t) =
        setDesk d { afterMessage s [p] false [] (s.desk d) with mask := hi ++ lo } t := by
      rw [addPlace, setDesk_desk_self, setDesk_setDesk, messageTaken_desk_self]
      simp [afterMessage]
    have hmask : setDesk d { (messageTaken d [p] false [] s).desk d with mask := hi ++ lo }
        (messageTaken d [p] false [] s) =
        setDesk d { afterMessage s [p] false [] (s.desk d) with mask := hi ++ lo } t := by
      rw [messageTaken_desk_self, messageTaken_place, setDesk_setDesk]
    rw [hx, hanswer, hplace, ← hmask]
    rfl
  · have hw := mt (wordOf_lt_2048_iff hi lo).1 (Nat.not_lt.2 hhi)
    rw [hx, checkCommand_answered (r := refuse .badValue (messageTaken d [] false [] s)) hr rfl (if_neg hw) rfl]
    rfl

theorem bytes2_eq (n : Nat) : bytes2 n = asTwo n := rfl

theorem bytes4_eq (n : Nat) : bytes4 n = asTwo (n / 65536) ++ asTwo n := by
  simp [bytes4, asTwo, byteOf, Nat.div_div_eq_div_mul]

theorem boolByte_ite (b : Bool) : boolByte b = if b then 1 else 0 := rfl

/-- One desk's part of LINK-STATUS, byte by byte (R176). -/
theorem deskStatus_eq (s : State) (e : Desk) :
    deskStatus s e =
      ([if (s.desk e).link = .live then 1 else 0, if (s.desk e).strap then 1 else 0] : List Byte) ++
      asTwo (s.desk e).mask.toNat ++
      [BitVec.ofNat 8 (s.desk e).notices.length, BitVec.ofNat 8 (s.desk e).overflow] ++ asTwo (s.desk e).bad ++
      asTwo s.talk.gain[e] ++ [BitVec.ofNat 8 s.talk.timeout[e]] := by
  have hlink : ∀ l : LinkState, linkByte l = if l = .live then 1 else 0 := fun l => by cases l <;> rfl
  simp only [deskStatus, hlink, boolByte_ite, bytes2_eq, byteOf]

/-- The stored load result, byte by byte (R176). -/
theorem storedLoad_eq (r : Option LoadResult) :
    storedLoad r =
      match r with
      | none => [255, 0, 0, 0]
      | some .ok => [0, 0, 0, 0]
      | some .absent => [1, 0, 0, 0]
      | some .badHeader => [2, 0, 0, 0]
      | some (.stopped k reason) => [3] ++ asTwo k ++ [reason] := by
  cases r with
  | none => rfl
  | some r => cases r <;> rfl

/-- The lane part of LINK-STATUS, byte by byte (R157, R176). -/
theorem laneStatus_eq (l : LaneInterface) :
    laneStatus l =
      [if l.clock = .referenced then (1 : Byte) else 0, BitVec.ofNat 8 l.refLane.val,
        match l.pendingRef with
        | none => 255
        | some r => BitVec.ofNat 8 r.val,
        BitVec.ofNat 8 l.relock] ++
      ((if l.judged[(0 : Lane)] then (1 : Byte) else 0) :: asTwo l.unlocked[(0 : Lane)]) ++
      ((if l.judged[(1 : Lane)] then (1 : Byte) else 0) :: asTwo l.unlocked[(1 : Lane)]) ++
      ((if l.judged[(2 : Lane)] then (1 : Byte) else 0) :: asTwo l.unlocked[(2 : Lane)]) ++
      ((if l.judged[(3 : Lane)] then (1 : Byte) else 0) :: asTwo l.unlocked[(3 : Lane)]) := by
  have hclock : clockByte l.clock = if l.clock = .referenced then 1 else 0 := by cases l.clock <;> rfl
  unfold laneStatus
  rw [hclock]
  cases l.pendingRef <;> rfl

theorem statusData_length (s : State) : (statusData s).length = 58 := by
  have hload : (storedLoad s.loader.result).length = 4 := by
    rw [storedLoad_eq]
    cases s.loader.result with
    | none => rfl
    | some r => cases r <;> rfl
  simp only [statusData, List.length_append, hload, deskStatus, laneStatus]
  rfl

/-- Settles O9: the reply's data are the words of R176, read from the state the message itself leaves. -/
theorem linkStatusIsAnswered : Obligations.LinkStatusIsAnswered := by
  unfold Obligations.LinkStatusIsAnswered
  intro d line s h hf u two one lock load data
  have hdata : statusData u = data := by
    have hrun : boolByte (isRunning u.loader) = if u.loader.stage = .running then 1 else 0 := by
      by_cases h : u.loader.stage = .running <;> simp [isRunning, boolByte, h]
    have hone : ∀ e, deskStatus u e = one e := deskStatus_eq u
    have hload : storedLoad u.loader.result = load := storedLoad_eq u.loader.result
    simp only [statusData, bytes4_eq, hrun, hone, hload, laneStatus_eq, data, ← List.append_assoc]
    rfl
  refine ⟨hdata ▸ statusData_length u, ?_⟩
  have hr : controllerRefusal .linkStatus [] d u = none := by
    rw [controllerRefusal_messageTaken]
    simp [argCountFits]
  rw [← hdata]
  refine (exec_commandOf_arrives .linkStatus d line [] s).trans (congrArg _ ?_)
  rw [messageArrives_known h hf, checkCommand_answered hr rfl rfl rfl]
  rfl

end Sys2Proof.Proofs.Links
end

section
/-! PROOFS. The receive assembler (R159, R160): what the bytes of a message come to, one by one and whole. -/

namespace Sys2Proof.Proofs.Assembly

open Sys2Proof Sys2Proof.Machine Sys2Proof.Safety Sys2Proof.Claims
open Sys2Proof.Proofs.Talk Sys2Proof.Proofs.Decisions Sys2Proof.Proofs.Links

/-! ### Sums and checks (R159, R164) -/

theorem sumBytes_eq_sum (l : List Byte) : sumBytes l = l.sum := by
  induction l with
  | nil => rfl
  | cons b l ih => rw [sumBytes, ih, List.sum_cons]

/-- A check byte brings the sum of what it closes to 0. -/
theorem sumBytes_append_checkByte (l : List Byte) : sumBytes (l ++ [checkByte l]) = 0 := by
  rw [sumBytes_eq_sum, List.sum_append, checkByte, sumBytes_eq_sum, List.sum_singleton]
  bv_omega

/-! ### Full messages (R159) -/

/-- The bytes of a full message after its length, taken one by one: the last of them has the message judged. -/
theorem feedBytes_full (n : Byte) :
    ∀ (rest got : List Byte), rest ≠ [] → (n :: (got ++ rest)).length = n.toNat + 2 →
      feedBytes (.full (n :: got)) rest = (.hunt, judgeFull (n :: (got ++ rest)))
  | [], _, hne, _ => absurd rfl hne
  | [b], got, _, hlen => by
    have hlast : ¬ (n :: (got ++ [b])).length < n.toNat + 2 := by omega
    simp only [feedBytes, feedByte, if_neg hlast]
  | b :: c :: rest, got, _, hlen => by
    have hmore : (n :: (got ++ [b])).length < n.toNat + 2 := by
      simp only [List.length_cons, List.length_append, List.length_nil] at hlen ⊢
      omega
    have ih := feedBytes_full n (c :: rest) (got ++ [b]) (by simp) (by simpa using hlen)
    simp only [feedBytes, feedByte, if_pos hmore]
    simpa using ih

/-- A full message whose sum is 0 is good, with its code, its line and its arguments (R159). -/
theorem judgeFull_good {n code line check : Byte} {args : List Byte}
    (h : sumBytes (n :: code :: line :: (args ++ [check])) = 0) :
    judgeFull (n :: code :: line :: (args ++ [check])) = .good code line args := by
  simp only [judgeFull, if_pos h, List.dropLast_concat]

theorem feedBytes_encodeFull {code line : Byte} {args : List Byte} (h : args.length ≤ 58) :
    feedBytes .hunt (encodeFull code line args) = (.hunt, .good code line args) := by
  let n : Byte := BitVec.ofNat 8 (args.length + 2)
  have hn : n.toNat = args.length + 2 := by
    rw [BitVec.toNat_ofNat]
    omega
  let check := checkByte (n :: code :: line :: args)
  have hstart : feedBytes .hunt (encodeFull code line args) =
      feedBytes (.full [n]) (code :: line :: (args ++ [check])) := by
    have hlen : 2 ≤ n.toNat ∧ n.toNat ≤ 60 := by omega
    have hlead : feedByte .hunt 0xA5 = (.full [], .collecting) := rfl
    have hsize : feedByte (.full []) n = (.full [n], .collecting) := by simp only [feedByte, if_pos hlen]
    change feedBytes .hunt (0xA5 :: n :: code :: line :: (args ++ [check])) = _
    rw [feedBytes, hlead, feedBytes, hsize]
    · exact fun h => absurd h (by simp)
    · exact fun h => absurd h (by simp)
  have hsum : sumBytes (n :: code :: line :: (args ++ [check])) = 0 :=
    sumBytes_append_checkByte (n :: code :: line :: args)
  rw [hstart, feedBytes_full n _ [] (by simp) (by simp [hn]), List.nil_append, judgeFull_good hsum]

/-! ### Compact messages (section 9.5) -/

theorem feedBytes_encodeCompact (k : Fin 8) (n : Line) :
    feedBytes .hunt (encodeCompact k n) =
      (.hunt, .good (opCode (opOfCompact k)) (if k = 7 then 0 else BitVec.ofNat 8 (n.val + 1)) []) := by
  revert k n
  decide

/-! ### The catalogue (section 9.5) -/

theorem mem_allOps (op : Op) : op ∈ allOps := by
  cases op <;> decide

/-- Settles O10. -/
theorem everyMessageIsReadBack : Obligations.EveryMessageIsReadBack := by
  unfold Obligations.EveryMessageIsReadBack
  intro code line args k n h
  refine ⟨feedBytes_encodeFull h, feedBytes_encodeCompact k n, ⟨rfl, mem_allOps, ?_⟩, rfl⟩
  simp only [List.forall_mem_cons, List.not_mem_nil, false_implies, implies_true, and_true, opCode, argCountFits,
    true_and, decide_eq_true_eq, beq_iff_eq]
  and_intros <;> (intro count; omega)

/-! ### One received byte (R159, R160) -/

/-- The state with desk d's assembler replaced and its gap count at 0. -/
def holding (d : Desk) (a : Assembler) (s : State) : State :=
  { s with desks := s.desks.set d { s.desk d with assembler := a, gap := 0 } }

theorem loseMessage_of_gap {d : Desk} {s : State} (h : (s.desk d).gap < 21) : loseMessage d s = s :=
  if_neg fun hg => absurd hg.2 (Nat.not_le.2 h)

theorem discardBad_eq (d : Desk) (s : State) : discardBad d s = messageLost d s := rfl

/-- The row of a received byte by what the assembler makes of it. -/
theorem exec_byteReceived {d : Desk} {b : Byte} {s : State} (h : (s.desk d).gap < 21) :
    exec (.byteReceived d b) s =
      match feedByte (s.desk d).assembler b with
      | (a, .collecting) => .next (holding d a s)
      | (_, .bad) => .next (messageLost d s)
      | (_, .good code line args) => exec (.unknownCommand d code line args) s := by
  change execByteReceived d b s = _
  simp only [execByteReceived, loseMessage_of_gap h]
  rcases feedByte (s.desk d).assembler b with ⟨a, _ | _ | _⟩ <;> rfl

/-- A compact message's bytes 2 and 3, in the words of the statement (R159, R162). -/
theorem judgeCompact_eq (b2 b : Byte) :
    judgeCompact b2 b =
      if b2.getLsbD 4 = false ∧ b = ~~~b2 then
        .good (opCode (opOfCompact (b2.extractLsb' 5 3).toNat))
          (if b2.extractLsb' 5 3 = 7 then 0 else BitVec.ofNat 8 ((b2.extractLsb' 0 4).toNat + 1)) []
      else .bad := by
  have hop : b2.toNat / 32 = (b2.extractLsb' 5 3).toNat := by
    rw [BitVec.extractLsb'_toNat, Nat.shiftRight_eq_div_pow]
    have := b2.isLt
    omega
  have hline : b2.toNat % 16 = (b2.extractLsb' 0 4).toNat := by
    rw [BitVec.extractLsb'_toNat, Nat.shiftRight_zero]
  have hnext : ∀ k : BitVec 3, opOfCompact k.toNat = .takeNext ↔ k = 7 := by decide
  simp only [judgeCompact, hop, hline, hnext]

/-- A whole full message, in the words of the statement (R159). -/
theorem judgeFull_eq {len b : Byte} {got : List Byte} (h : 2 ≤ got.length) :
    judgeFull (len :: (got ++ [b])) =
      if (len :: got ++ [b]).sum = 0 then .good (got.getD 0 0) (got.getD 1 0) (got.drop 2) else .bad := by
  match got, h with
  | code :: line :: args, _ =>
    rw [← sumBytes_eq_sum]
    by_cases hs : sumBytes (len :: code :: line :: (args ++ [b])) = 0
    · exact (judgeFull_good hs).trans (if_pos hs).symm
    · exact (if_neg hs).trans (if_neg hs).symm

/-- Settles O11: by the state of the assembler. -/
theorem receivedByteIsAssembled : Obligations.ReceivedByteIsAssembled := by
  unfold Obligations.ReceivedByteIsAssembled
  intro d b s hgap hlegal
  simp only [exec_byteReceived hgap]
  cases ha : (s.desk d).assembler with
  | hunt =>
    simp only [feedByte]
    by_cases h1 : b = 0xC3
    · simp only [h1, if_true]; rfl
    · by_cases h2 : b = 0xA5
      · simp only [if_neg h1, if_pos h2]; rfl
      · simp only [if_neg h1, if_neg h2]; rfl
  | compact got =>
    cases got with
    | nil => rfl
    | cons b2 rest =>
      simp only [feedByte, judgeCompact_eq]
      by_cases h : b2.getLsbD 4 = false ∧ b = ~~~b2
      · simp only [if_pos h]
      · simp only [if_neg h]
  | full got =>
    cases got with
    | nil =>
      simp only [feedByte]
      by_cases h : 2 ≤ b.toNat ∧ b.toNat ≤ 60
      · simp only [h, and_self, if_true]; rfl
      · simp only [if_neg h]
    | cons len got =>
      rw [ha] at hlegal
      simp only [assemblerLegal, Bool.and_eq_true, decide_eq_true_eq] at hlegal
      obtain ⟨⟨hmin, -⟩, hmax⟩ := hlegal
      have hlen : (len :: (got ++ [b])).length < len.toNat + 2 ↔ got.length < len.toNat := by
        simp only [List.length_cons, List.length_append, List.length_nil]
        omega
      simp only [feedByte, hlen]
      by_cases h : got.length < len.toNat
      · simp only [if_pos h]; rfl
      · rw [if_neg h, if_neg h, judgeFull_eq (by omega)]
        by_cases hs : (len :: got ++ [b]).sum = 0
        · simp only [if_pos hs]
        · simp only [if_neg hs]

end Sys2Proof.Proofs.Assembly
end

section
/-! PROOFS. A controller's block end, its transmitter, its notices, and the two moments of a command as one (R122,
R160 to R172). -/

namespace Sys2Proof.Proofs.Desk

open Sys2Proof Sys2Proof.Machine Sys2Proof.Safety Sys2Proof.Claims
open Sys2Proof.Proofs.Talk Sys2Proof.Proofs.Decisions Sys2Proof.Proofs.Links Sys2Proof.Proofs.Assembly

/-! ### Bad messages and lost links (R160, R161, R166, R167) -/

theorem assembling_iff (a : Assembler) : assembling a = true ↔ a ≠ .hunt := by
  cases a <;> simp [assembling]

theorem loseMessage_eq (d : Desk) (s : State) :
    loseMessage d s =
      if (s.desk d).assembler ≠ .hunt ∧ 21 ≤ (s.desk d).gap then messageLost d s else s := by
  simp only [loseMessage, assembling_iff, discardBad_eq]
  rfl

theorem goLost_eq (d : Desk) (s : State) : goLost d s = linkGone d s := by
  refine DesksOnly.eq_of_desk (s := s) rfl rfl fun e => ?_
  have hr : (linkGone d s).desk e = _ := ofFn_get _ e
  rw [goLost, offerOthers_desk, setDesk_desk, hr]
  by_cases he : e = d
  · subst he
    rw [if_pos rfl, if_pos rfl, if_pos rfl]
    rfl
  · rw [if_neg he, if_neg he, if_neg he]
    rfl

theorem loseLink_eq (d : Desk) (s : State) :
    loseLink d s = if (s.desk d).link = .live ∧ 2000 ≤ (s.desk d).liveness then linkGone d s else s := by
  rw [loseLink, goLost_eq]
  rfl

/-- Settles O12. -/
theorem badMessageIsCountedAndLinkGoesLost : Obligations.BadMessageIsCountedAndLinkGoesLost := by
  unfold Obligations.BadMessageIsCountedAndLinkGoesLost
  intro d s
  have hgap : exec (.messageGapTimeout d) s = .next (loseMessage d s) := rfl
  have hlost : exec (.linkLost d) s = .next (loseLink d s) := rfl
  rw [hgap, hlost, loseMessage_eq, loseLink_eq]
  refine ⟨rfl, fun ha hg => ?_, fun h => ?_, fun hl hc => ?_, fun h => ?_⟩
  · rw [if_pos ⟨ha, hg⟩]
  · rw [if_neg]
    rintro ⟨ha, hg⟩
    exact h.elim ha (Nat.not_lt.2 hg)
  · rw [if_pos ⟨hl, hc⟩]
  · rw [if_neg]
    rintro ⟨hl, hc⟩
    exact h.elim (by simp [hl]) (Nat.not_lt.2 hc)

/-! ### A controller's block end (R160, R166) -/

theorem messageLost_desk (d e : Desk) (s : State) :
    (messageLost d s).desk e =
      if e = d then { s.desk d with
        assembler := .hunt
        gap := 0
        bad := if (s.desk d).bad < 65535 then (s.desk d).bad + 1 else (s.desk d).bad }
      else s.desk e :=
  setDesk_desk d e _ s

/-- Settles O13: the counts rise, then the message is lost by its gap count, then the link by its liveness count. -/
theorem blockEndOfALink : Obligations.BlockEndOfALink := by
  unfold Obligations.BlockEndOfALink
  intro d s hgap hlive c counted heardOut
  replace hgap : c.gap ≤ 20 := hgap
  replace hlive : c.link = .live → c.liveness ≤ 1999 := hlive
  have hcounted : setDesk d (raiseCounts (s.desk d)) s = counted := by
    have hl : (if c.link = .live then riseTo Config.livenessBlocks c.liveness else c.liveness) =
        if c.link = .live then c.liveness + 1 else c.liveness := by
      split
      · next h => exact if_pos (Nat.lt_of_le_of_lt (hlive h) (by decide))
      · rfl
    have hg : (if assembling c.assembler then riseTo Config.gapBlocks c.gap else c.gap) =
        if c.assembler = .hunt then c.gap else c.gap + 1 := by
      by_cases h : c.assembler = .hunt
      · simp [h, assembling]
      · rw [if_pos ((assembling_iff _).2 h), if_neg h]
        exact if_pos (Nat.lt_of_le_of_lt hgap (by decide))
    simp only [raiseCounts]
    rw [hl, hg]
    rfl
  have hc : counted.desk d = { c with
      liveness := if c.link = .live then c.liveness + 1 else c.liveness
      gap := if c.assembler = .hunt then c.gap else c.gap + 1 } := setDesk_desk_self d _ s
  have hheard : loseMessage d counted = heardOut := by
    rw [loseMessage_eq, hc]
    by_cases h : c.assembler = .hunt
    · simp [h, heardOut]
    · have : (21 ≤ c.gap + 1) ↔ c.gap = 20 := by omega
      simp only [h, if_false, ne_eq, not_false_eq_true, true_and, this, heardOut]
  have hheardDesk : (heardOut.desk d).link = c.link ∧
      (heardOut.desk d).liveness = if c.link = .live then c.liveness + 1 else c.liveness := by
    simp only [heardOut]
    split
    · rw [messageLost_desk, if_pos rfl, hc]
      exact ⟨rfl, rfl⟩
    · rw [hc]
      exact ⟨rfl, rfl⟩
  have hexec : exec (.livenessBlockEnd d) s = .next (loseLink d (loseMessage d (setDesk d (raiseCounts (s.desk d)) s))) :=
    rfl
  rw [hexec, hcounted, hheard, loseLink_eq, hheardDesk.1, hheardDesk.2]
  by_cases h : c.link = .live
  · have := hlive h
    have h2 : (2000 ≤ c.liveness + 1) ↔ c.liveness = 1999 := by
      omega
    simp only [h, if_true, true_and, h2]
  · simp only [h, if_false, false_and]

/-! ### Link events at the Line Table (R10) -/

/-- Settles O14: by whether the desk is desk 2. -/
theorem fallbackFlagFollowsDesk2 : Obligations.FallbackFlagFollowsDesk2 := by
  unfold Obligations.FallbackFlagFollowsDesk2
  intro d s
  have hlive : exec (.linkLiveAtLineTable d) s =
    .next (lineTableLink d .live (takeLinkEvent .lineTable .live d s)) := rfl
  have hlost : exec (.linkLostAtLineTable d) s =
    .next (lineTableLink d .lost (takeLinkEvent .lineTable .lost d s)) := rfl
  rw [hlive, hlost, lineTableLink, lineTableLink]
  by_cases h : d = 2
  · simp only [if_pos h]
    exact ⟨rfl, rfl⟩
  · simp only [if_neg h]
    exact ⟨rfl, rfl⟩

/-! ### The transmitter (R163 to R165, R170) -/

theorem framed_eq_sent (lead : Byte) (body : List Byte) : framed lead body = sent lead body := by
  simp only [framed, sent, checkByte, sumBytes_eq_sum]
  rfl

theorem sent_sum (lead : Byte) (body : List Byte) : ((sent lead body).drop 1).sum = 0 := by
  rw [← framed_eq_sent, ← sumBytes_eq_sum]
  exact sumBytes_append_checkByte _

theorem replyBytes_eq (r : Reply) (discarded : Bool) :
    replyBytes r discarded =
      sent 0x5A ([r.code, r.line, BitVec.ofNat 8 (resultNumber r.result + (if discarded then 64 else 0) +
        (if r.clamped then 128 else 0))] ++ r.data) := by
  rw [replyBytes, framed_eq_sent, resultByte, resultCode_eq]
  rfl

/-- The four bytes of a block number, high byte first (R164). -/
theorem bytes4_toNat (w : BlockNo) :
    bytes4 w.toNat = [w.extractLsb' 24 8, w.extractLsb' 16 8, w.extractLsb' 8 8, w.extractLsb' 0 8] := by
  simp only [bytes4, byteOf, List.cons.injEq, and_true]
  have hbyte (k : Nat) : BitVec.ofNat 8 (w.toNat / 2 ^ k) = w.extractLsb' k 8 := BitVec.eq_of_toNat_eq (by
    rw [BitVec.toNat_ofNat, BitVec.extractLsb'_toNat, Nat.shiftRight_eq_div_pow])
  refine ⟨hbyte 24, hbyte 16, hbyte 8, ?_⟩
  rw [← hbyte 0, Nat.pow_zero, Nat.div_one]

theorem noticeBytes_eq (n : Stamped) :
    noticeBytes n = sent 0x5C ([BitVec.ofNat 8 (kindNumber n.notice), n.stamp.extractLsb' 24 8,
      n.stamp.extractLsb' 16 8, n.stamp.extractLsb' 8 8, n.stamp.extractLsb' 0 8] ++ noticeSays n.notice) := by
  rw [noticeBytes, framed_eq_sent, kindCode_eq, noticeData_eq, bytes4_toNat]
  rfl

theorem exists_of_headFilled {c : Controller} (h : headFilled c = true) : ∃ r rest, c.replies = .ready r :: rest := by
  unfold headFilled at h
  split at h
  · exact ⟨_, _, ‹_›⟩
  · exact absurd h Bool.false_ne_true

theorem startNotice_of_headFilled {d : Desk} {s : State} {r : Reply} {rest : List Place}
    (hr : (s.desk d).replies = .ready r :: rest) : startNotice d s = s := by
  have hh : headFilled (s.desk d) = true := by rw [headFilled, hr]
  simp only [startNotice, hh]
  cases (s.desk d).tx <;> rfl

theorem startNotice_of_head {d : Desk} {s : State} (hh : headFilled (s.desk d) = false) :
    startNotice d s =
      match (s.desk d).tx, (s.desk d).notices with
      | .idle, n :: rest => setDesk d { s.desk d with tx := .sending (noticeBytes n), notices := rest } s
      | _, _ => s := by
  simp only [startNotice, hh]
  cases htx : (s.desk d).tx with
  | sending bytes => rfl
  | idle => cases hn : (s.desk d).notices <;> rfl

/-- Settles O15. -/
theorem transmitterStartsReplyThenNotice : Obligations.TransmitterStartsReplyThenNotice := by
  unfold Obligations.TransmitterStartsReplyThenNotice
  intro d s lead body c with_
  have hreply : exec (.sendReply d) s = .next (startReply d s) := rfl
  have hnotice : exec (.sendNotice d) s = .next (startNotice d s) := rfl
  rw [hreply, hnotice]
  refine ⟨congrArg _ ?_, congrArg _ ?_, rfl, sent_sum lead body⟩
  · simp only [startReply, replyBytes_eq]
    rfl
  · have hwait (hh : headFilled c = false) : startNotice d s =
        match c.tx, c.notices with
        | .idle, n :: rest => with_ { c with
          tx := .sending (sent 0x5C ([BitVec.ofNat 8 (kindNumber n.notice), n.stamp.extractLsb' 24 8,
            n.stamp.extractLsb' 16 8, n.stamp.extractLsb' 8 8, n.stamp.extractLsb' 0 8] ++ noticeSays n.notice))
          notices := rest }
        | _, _ => s := by
      rw [startNotice_of_head hh]
      simp only [noticeBytes_eq]
      rfl
    cases hh : headFilled c with
    | true =>
      obtain ⟨r, rest, hr⟩ := exists_of_headFilled hh
      rw [startNotice_of_headFilled hr, hr]
      cases c.tx <;> rfl
    | false =>
      rw [hwait hh]
      cases hr : c.replies with
      | nil => cases c.tx <;> cases c.notices <;> rfl
      | cons p rest =>
        cases p with
        | waiting o => cases c.tx <;> cases c.notices <;> rfl
        | ready r => exact absurd (show headFilled c = true by rw [headFilled, hr]) (by simp [hh])

/-! ### An offered notice (R172) -/

/-- Settles O16: by the five steps in their order. -/
theorem offeredNoticeIsFiltered : Obligations.OfferedNoticeIsFiltered := by
  unfold Obligations.OfferedNoticeIsFiltered
  intro d n rest s ho c gone stamped after
  have hmask (m : Notice) : maskBit c.mask m = c.mask.getLsbD (kindNumber m) := by rw [maskBit, kindCode_eq]
  have hstep : exec (.noticeOffer d) s =
      .next (setDesk d { enterNotice s.lanes.block n c with offered := rest } s) := by
    change Host.Outcome.next (takeOffer d s) = _
    rw [takeOffer, ho]
  rw [hstep]
  refine congrArg (fun c => Host.Outcome.next (setDesk d c s)) ?_
  simp only [enterNotice, after, hmask]
  by_cases h1 : c.link = .lost
  · rw [if_pos h1, if_pos h1]
  rw [if_neg h1, if_neg h1]
  by_cases h2 : c.mask.getLsbD (kindNumber n) = false
  · rw [if_pos h2, if_pos h2]
  rw [if_neg h2, if_neg h2]
  by_cases h3 : Config.noticePlaces ≤ c.notices.length
  · rw [if_pos h3, if_pos (show 32 ≤ c.notices.length from h3)]
  rw [if_neg h3, if_neg (show ¬32 ≤ c.notices.length from h3)]
  by_cases h4 : 0 < c.overflow ∧ c.mask.getLsbD 10 = true
  · have h5 : Config.noticePlaces ≤ (c.notices ++ [(⟨s.lanes.block, .lostNotices c.overflow⟩ : Stamped)]).length ↔
        c.notices.length = 31 := by
      rw [List.length_append, List.length_singleton]
      change ¬32 ≤ c.notices.length at h3
      change 32 ≤ c.notices.length + 1 ↔ _
      omega
    rw [if_pos h4]
    have h4' : 0 < c.overflow ∧ c.mask.getLsbD (kindNumber (.lostNotices c.overflow)) = true := h4
    rw [if_pos h4']
    by_cases h6 : c.notices.length = 31
    · rw [if_pos h6, if_pos (h5.2 h6)]
    · rw [if_neg h6, if_neg (mt h5.1 h6), List.append_assoc]
      rfl
  · have h4' : ¬(0 < c.overflow ∧ c.mask.getLsbD (kindNumber (.lostNotices c.overflow)) = true) := h4
    rw [if_neg h4, if_neg h4']

/-! ### The two moments of a command as one (R122, R162, R163) -/

/-- An offered notice moves the notice queue and its overflow count alone, and keeps their ranges (R172). -/
theorem enterNotice_cases (block : BlockNo) (n : Notice) (c : Controller) :
    ∃ q k, enterNotice block n c = { c with notices := q, overflow := k } ∧
      (c.notices.length ≤ 32 → q.length ≤ 32) ∧ (c.overflow ≤ 255 → k ≤ 255) ∧
      (c.link = .lost → q = c.notices ∧ k = c.overflow) := by
  have hplaces : Config.noticePlaces = 32 := rfl
  simp only [enterNotice]
  split_ifs with h1
  · exact ⟨_, _, rfl, id, id, fun _ => ⟨rfl, rfl⟩⟩
  all_goals
    refine ⟨_, _, rfl, fun _ => ?_, fun _ => ?_, fun h => absurd h h1⟩ <;>
      (try simp only [List.length_append, List.length_singleton] at *) <;> omega

theorem enterNotice_handed (block : BlockNo) (n : Notice) (c : Controller) :
    (enterNotice block n c).handed = c.handed := by
  obtain ⟨q, k, h, -⟩ := enterNotice_cases block n c
  rw [h]

/-- A link that goes LIVE hands its two events on, whatever its notice queue holds (R167). -/
theorem goLive_handed (d : Desk) (s : State) :
    ((goLive d s).desk d).handed = (s.desk d).handed ++ [(.talkArbiter, .live), (.lineTable, .live)] := by
  rw [goLive, offerOthers_desk, if_pos rfl, setDesk_desk_self, enterNotice_handed]
  rfl

/-- What a good message hands on before its command: the events of a link that was LOST (R167). -/
theorem markAlive_handed (d : Desk) (s : State) :
    ((markAlive d (backToHunt d s)).desk d).handed =
      (s.desk d).handed ++
        if (s.desk d).link = .lost then [(.talkArbiter, .live), (.lineTable, .live)] else [] := by
  simp only [markAlive, backToHunt, setDesk_desk_self, setDesk_setDesk]
  split
  · rw [goLive_handed, setDesk_desk_self]
  · rw [setDesk_desk_self, List.append_nil]

/-- A command that passes its controller's checks is handed on behind what its message handed on. -/
theorem messageArrives_handed_of_accepted {op : Op} {d : Desk} {line : Byte} {args : List Byte} {s : State}
    (ho : ownerOf op ≠ .controller) (ha : acceptedAt op d args s = true) :
    ((messageArrives d (opCode op) line args s).desk d).handed =
      ((markAlive d (backToHunt d s)).desk d).handed ++ [(ownerOf op, .command op line args)] := by
  simp only [acceptedAt, Bool.and_eq_true, Bool.not_eq_true', Option.isNone_iff_eq_none] at ha
  obtain ⟨hf, hr⟩ := ha
  simp only [messageArrives, hf, opOfCode_opCode, checkCommand, hr, if_neg ho, handOn]
  rw [if_neg Bool.false_ne_true, setDesk_desk_self]

/-- A command that is discarded or refused hands nothing on. -/
theorem messageArrives_handed_of_not_accepted {op : Op} {d : Desk} {line : Byte} {args : List Byte} {s : State}
    (ha : acceptedAt op d args s = false) :
    ((messageArrives d (opCode op) line args s).desk d).handed =
      ((markAlive d (backToHunt d s)).desk d).handed := by
  cases hf : repliesFull ((markAlive d (backToHunt d s)).desk d) with
  | true => simp only [messageArrives, hf, if_true, discardCommand, setDesk_desk_self]
  | false =>
    cases hr : controllerRefusal op args d (markAlive d (backToHunt d s)) with
    | none => simp [acceptedAt, hf, hr] at ha
    | some r =>
      simp only [messageArrives, hf, opOfCode_opCode, checkCommand, hr, addPlace]
      rw [if_neg Bool.false_ne_true, setDesk_desk_self]

/-- What a controller has handed to an owner and the owner has not taken, oldest first (R122). -/
def handedFor (o : Owner) (l : List (Owner × Handed)) : List (Owner × Handed) := l.filter fun p => p.1 == o

theorem firstFor_eq (o : Owner) (l : List (Owner × Handed)) : firstFor o l = (handedFor o l).head?.map Prod.snd := by
  rw [firstFor, handedFor, List.head?_filter]

theorem handedFor_eq_nil {o : Owner} {l : List (Owner × Handed)} (h : firstFor o l = none) : handedFor o l = [] := by
  rw [firstFor_eq, Option.map_eq_none_iff, List.head?_eq_none_iff] at h
  exact h

theorem handedFor_append (o : Owner) (l m : List (Owner × Handed)) :
    handedFor o (l ++ m) = handedFor o l ++ handedFor o m := List.filter_append ..

/-- Taking the first thing handed to an owner leaves the later ones. -/
theorem handedFor_dropFirstFor (o : Owner) (l : List (Owner × Handed)) :
    handedFor o (dropFirstFor o l) = (handedFor o l).tail := by
  induction l with
  | nil => rfl
  | cons p l ih =>
    by_cases h : (p.1 == o) = true
    · simp [handedFor, dropFirstFor, h]
    · simpa [handedFor, dropFirstFor, h] using ih

/-- A link event that is the first thing handed to an owner is that thing taken off. -/
theorem dropFirstFor_eq_erase {o : Owner} {h : Handed} {l : List (Owner × Handed)} (hf : firstFor o l = some h) :
    dropFirstFor o l = l.erase (o, h) := by
  induction l with
  | nil => exact absurd hf (by simp [firstFor])
  | cons p l ih =>
    by_cases hp : p.1 = o
    · have : p = (o, h) := by
        simp only [firstFor, List.find?_cons, hp, beq_self_eq_true, Option.map_some, Option.some.injEq] at hf
        exact Prod.ext hp hf
      simp [dropFirstFor, this]
    · have hne : ¬ (p.1 == o) = true := by simpa using hp
      have hf' : firstFor o l = some h := by simpa [firstFor, List.find?_cons, hp] using hf
      have hpne : p ≠ (o, h) := fun e => hp (congrArg Prod.fst e)
      have ih' := ih hf'
      simp only [dropFirstFor] at ih'
      simp [dropFirstFor, hp, hpne, ih']

theorem ownerTakes_command {o : Owner} {d : Desk} {s : State} {op : Op} {line : Byte} {args : List Byte}
    (h : firstFor o (s.desk d).handed = some (.command op line args)) :
    ownerTakes o d s = ownerDecides op d line args s := by
  rw [ownerTakes, h]

/-- An owner that is handed the link-LIVE event first takes it as the row of that event does (R10, R122). -/
theorem ownerTakes_live {o : Owner} {d : Desk} {s : State} (h : firstFor o (s.desk d).handed = some .live) :
    ownerTakes o d s =
      if o = .talkArbiter then talkLinkLive d (takeLinkEvent o .live d s)
      else lineTableLink d .live (takeLinkEvent o .live d s) := by
  rw [ownerTakes, h, takeLinkEvent, ← dropFirstFor_eq_erase h]
  rfl

theorem lineTableLink_desk (d : Desk) (v : LinkState) (s : State) (e : Desk) :
    (lineTableLink d v s).desk e = s.desk e := by
  unfold lineTableLink
  split <;> rfl

theorem talkLinkLive_handed (d : Desk) (s : State) (e : Desk) :
    ((talkLinkLive d s).desk e).handed = (s.desk e).handed := by
  rw [talkLinkLive_eq]
  split
  · rw [releases_eq_clearHolds, offerMany_desk]
    rfl
  · rfl

/-- The owner takes the link event its controller handed it, and nothing of the kind is left before the command. -/
theorem handedFor_after_live {o : Owner} {d : Desk} {t u : State}
    (hf : firstFor o (t.desk d).handed = some .live)
    (hu : u = if o = .talkArbiter then talkLinkLive d (takeLinkEvent o .live d t)
      else lineTableLink d .live (takeLinkEvent o .live d t)) :
    handedFor o (u.desk d).handed = (handedFor o (t.desk d).handed).tail := by
  have hh : (u.desk d).handed = ((takeLinkEvent o .live d t).desk d).handed := by
    rw [hu]
    split
    · exact talkLinkLive_handed ..
    · rw [lineTableLink_desk]
  rw [hh, takeLinkEvent, setDesk_desk_self, ← dropFirstFor_eq_erase hf, handedFor_dropFirstFor]

/-- Settles O3: what waits for the owner after the arrival is the link event, if any, then the command, if it was handed
on; the owner takes them in that order. -/
theorem wholeCommandIsArrivalThenDecision : Obligations.WholeCommandIsArrivalThenDecision := by
  unfold Obligations.WholeCommandIsArrivalThenDecision
  intro op d line args s t u ho
  refine ⟨fun h => ?_, fun hnone harr => ?_⟩
  · rw [exec_commandOf ho, deskCommand_not_handed h]
  obtain rfl : messageArrives d (opCode op) line args s = t := by
    rw [exec_commandOf_arrives] at harr
    injection harr
  set t := messageArrives d (opCode op) line args s with ht
  let o := ownerOf op
  let cmd : Owner × Handed := (o, .command op line args)
  let lives : List (Owner × Handed) :=
    if (s.desk d).link = .lost then [(.talkArbiter, .live), (.lineTable, .live)] else []
  have hwhole : exec (commandOf op .whole d line args) s =
      .next (if acceptedAt op d args s then ownerTakesMany o d (handedTo o d t) t else t) :=
    exec_commandOf ho .whole d line args s
  have hdecided (v : State) : exec (commandOf op .decided d line args) v = .next
      (if firstFor o (v.desk d).handed = some (.command op line args) then ownerDecides op d line args v else v) :=
    exec_commandOf ho .decided d line args v

  have hlives : ownerOf op ≠ .lineTable ∧ ownerOf op ≠ .talkArbiter → handedFor o lives = [] := by
    rintro ⟨h1, h2⟩
    simp only [handedFor, lives, o]
    split <;> simp [h1.symm, h2.symm]
  simp only [hwhole, hdecided]
  cases ha : acceptedAt op d args s with
  | false =>
    have hhanded : (t.desk d).handed = (s.desk d).handed ++ lives :=
      (messageArrives_handed_of_not_accepted ha).trans (markAlive_handed d s)
    have hmem : cmd ∉ (t.desk d).handed := by
      rw [hhanded, List.mem_append]
      rintro (h | h)
      · have : cmd ∈ handedFor o (s.desk d).handed := List.mem_filter.2 ⟨h, by simp [cmd]⟩
        rw [handedFor_eq_nil hnone] at this
        exact absurd this List.not_mem_nil
      · simp only [lives] at h
        split at h <;> simp [cmd] at h
    refine ⟨fun _ => rfl, fun h => ?_, fun _ h => absurd h hmem⟩
    have hfor : handedFor o (t.desk d).handed = [] := by
      rw [hhanded, handedFor_append, handedFor_eq_nil hnone, List.nil_append]
      rcases h with h | h
      · simp [lives, h, handedFor]
      · exact hlives h
    rw [firstFor_eq, hfor]
    simp
  | true =>
    have hhanded : (t.desk d).handed = (s.desk d).handed ++ lives ++ [cmd] := by
      rw [ht, messageArrives_handed_of_accepted ho ha, markAlive_handed]
    have hcmd : handedFor o [cmd] = [cmd] := by simp [handedFor, cmd]
    have hfor : handedFor o (t.desk d).handed = handedFor o lives ++ [cmd] := by
      rw [hhanded, handedFor_append, handedFor_append, handedFor_eq_nil hnone, List.nil_append, hcmd]
    have hone (v : State) (hv : handedFor o (v.desk d).handed = [cmd]) :
        firstFor o (v.desk d).handed = some (.command op line args) := by
      rw [firstFor_eq, hv]
      rfl
    refine ⟨fun h => absurd (by rw [hhanded]; simp [cmd, o]) h, fun h => ?_, fun hl _ => ?_⟩
    · have hnil : handedFor o lives = [] := by
        rcases h with h | h
        · simp [lives, h, handedFor]
        · exact hlives h
      rw [hnil, List.nil_append] at hfor
      have hcount : handedTo o d t = 1 := congrArg List.length hfor
      rw [if_pos rfl, hcount, if_pos (hone t hfor), ownerTakesMany, ownerTakesMany, ownerTakes_command (hone t hfor)]
    · have hafter (hlo : handedFor o lives = [(o, .live)])
          (hu : u = if o = .talkArbiter then talkLinkLive d (takeLinkEvent o .live d t)
            else lineTableLink d .live (takeLinkEvent o .live d t)) :
          ownerTakesMany o d (handedTo o d t) t = ownerDecides op d line args u ∧
            firstFor o (u.desk d).handed = some (.command op line args) := by
        rw [hlo] at hfor
        have hcount : handedTo o d t = 2 := congrArg List.length hfor
        have hlive : firstFor o (t.desk d).handed = some .live := by rw [firstFor_eq, hfor]; rfl
        have hrest := hone u (by rw [handedFor_after_live hlive hu, hfor]; rfl)
        refine ⟨?_, hrest⟩
        rw [hcount, ownerTakesMany, ownerTakesMany, ownerTakesMany, ownerTakes_live hlive, ← hu,
          ownerTakes_command hrest]
      have hlost : lives = [(.talkArbiter, .live), (.lineTable, .live)] := if_pos hl
      refine ⟨fun hlt hu => ?_, fun hta hu => ?_⟩
      · obtain ⟨hmany, hfirst⟩ := hafter (by rw [hlost]; simp [handedFor, o, hlt]) (by
          rw [if_neg (by simp [o, hlt])]
          simp only [o, hlt]
          exact (Host.Outcome.next.inj hu).symm)
        rw [if_pos rfl, if_pos hfirst, hmany]
      · obtain ⟨hmany, hfirst⟩ := hafter (by rw [hlost]; simp [handedFor, o, hta]) (by
          rw [if_pos (by simp [o, hta])]
          simp only [o, hta]
          exact (Host.Outcome.next.inj hu).symm)
        rw [if_pos rfl, if_pos hfirst, hmany]

end Sys2Proof.Proofs.Desk
end

section
/-! PROOFS. Everything a step can do to the Line Table, said once, and the laws each of these changes keeps: the ready
queues (R27, R28), the destinations (R63), the capacities (R8, R51) and the record ranges (R1). -/

namespace Sys2Proof.Proofs.LineMoves

open Sys2Proof Sys2Proof.Machine Sys2Proof.Safety Sys2Proof.Proofs.Talk Sys2Proof.Proofs.Decisions

/-! ### The changes of the Line Table -/

/-- The groups that count a line in this state: the one it is a member of and the one it has a reservation in (R8). -/
def groupsOf (st : LineState) : List Group := (memberGroup st).toList ++ (reservedGroup st).toList

/-- A record that may take the place of line n's: a legal destination stays legal, a group entered has room, and levels,
label and clearing count stay in their ranges. -/
structure Change (lt : LineTable) (n : Line) (r : LineRec) : Prop where
  dest : destLegal lt.recs[n].state = true → destLegal r.state = true
  room : (groupsOf r.state).Sublist (groupsOf lt.recs[n].state) ∨
    ∃ g, groupHasRoom lt g = true ∧ (groupsOf r.state).Sublist (groupsOf lt.recs[n].state ++ [g])
  count : countLegal lt.recs[n].state = true → countLegal r.state = true
  level : r.level = lt.recs[n].level ∨ r.level ≤ 32767 := by exact .inl rfl
  ret : r.ret = lt.recs[n].ret ∨ r.ret ≤ 32767 := by exact .inl rfl
  label : r.label = lt.recs[n].label ∨ (r.label.length ≤ 24 ∧ r.label.all printable = true) := by exact .inl rfl

/-- Line n's due entry stands in one queue, as given. -/
def DueIn (st : LineState) (n : Line) (x : Studio) (b : Bool) : Prop :=
  ∀ y, entriesDue st n y = if y = x then [⟨n, b⟩] else []

/-- What a step can do to the Line Table, by what happens to the ready queues. -/
inductive LineMove (lt : LineTable) : LineTable → Prop
  /-- desk 2's link event (R10) -/
  | fallback (b : Bool) : LineMove lt { lt with fallback := b }
  /-- a record replaced, its due entry as before -/
  | stay {n : Line} {r : LineRec} (h : Change lt n r)
      (hq : ∀ x, entriesDue r.state n x = entriesDue lt.recs[n].state n x) : LineMove lt (setRec n r lt)
  /-- a line leaves its queue (R29) -/
  | leave {n : Line} {r : LineRec} (h : Change lt n r) (hq : ∀ x, entriesDue r.state n x = []) :
      LineMove lt (setRec n r (dropEntry n lt))
  /-- a line with no entry takes the tail of a queue (R28) -/
  | join {n : Line} {r : LineRec} {x : Studio} {b : Bool} (h : Change lt n r) (hroom : queueHasRoom lt x = true)
      (hold : ∀ y, entriesDue lt.recs[n].state n y = []) (hq : DueIn r.state n x b) :
      LineMove lt (setRec n r (addEntry x n b lt))
  /-- a QUEUED line moves to the tail of a queue, its own or one with room (R38, R41) -/
  | requeue {n : Line} {r : LineRec} {x : Studio} (h : Change lt n r)
      (hroom : lt.recs[n].state = .queued x ∨ queueHasRoom lt x = true) (hq : DueIn r.state n x false) :
      LineMove lt (setRec n r (addEntry x n false (dropEntry n lt)))
  /-- an entry moves to the head of its queue (R40) -/
  | promote (x : Studio) (n : Line) : LineMove lt (promoteEntry x n lt)
  /-- an arriving entry is confirmed (R30) -/
  | confirm {n : Line} {r : LineRec} {x : Studio} (h : Change lt n r)
      (hold : destLegal lt.recs[n].state = true → DueIn lt.recs[n].state n x true) (hq : DueIn r.state n x false) :
      LineMove lt (setRec n r (confirmEntry x n lt))
  /-- lines freed in one step (R3) -/
  | free (gone : Line → Bool) : LineMove lt (freeLines gone lt)
  /-- the clearing counts rise (R21) -/
  | tick : LineMove lt { lt with recs := Vector.ofFn fun n => tickClearing lt.recs[n] }

/-! ### The queues after a change -/

theorem queueOf_setRec (n : Line) (r : LineRec) (lt : LineTable) (x : Studio) :
    queueOf (setRec n r lt) x = queueOf lt x := rfl

theorem queueOf_dropEntry (n : Line) (lt : LineTable) (x : Studio) :
    queueOf (dropEntry n lt) x = (queueOf lt x).filter (fun e => e.line != n) := by
  cases x <;> rfl

theorem queueOf_setQueue (x y : Studio) (q : List Entry) (lt : LineTable) :
    queueOf (setQueue x q lt) y = if y = x then q else queueOf lt y := by
  cases x <;> cases y <;> rfl

theorem queueOf_addEntry (x y : Studio) (n : Line) (b : Bool) (lt : LineTable) :
    queueOf (addEntry x n b lt) y = queueOf lt y ++ if y = x then [⟨n, b⟩] else [] := by
  rw [addEntry, queueOf_setQueue]
  by_cases h : y = x
  · rw [if_pos h, if_pos h, h]
  · rw [if_neg h, if_neg h, List.append_nil]

theorem queueOf_freeLines (gone : Line → Bool) (lt : LineTable) (x : Studio) :
    queueOf (freeLines gone lt) x = (queueOf lt x).filter (fun e => !gone e.line) := by
  cases x <;> rfl

/-! ### The law of the ready queues (R27, R28) -/

/-- The law of one studio's queue: every line's entries are its due ones, and there is room for them. -/
def QueueGood (lt : LineTable) (x : Studio) : Prop :=
  (∀ n : Line, (queueOf lt x).filter (fun e => e.line == n) = entriesDue lt.recs[n].state n x) ∧
  (queueOf lt x).length ≤ 8

theorem queueLaw_iff (lt : LineTable) : QueueLaw lt ↔ ∀ x, QueueGood lt x := by
  constructor
  · rintro ⟨ha, hb, hla, hlb⟩ x
    cases x
    · exact ⟨ha, hla⟩
    · exact ⟨hb, hlb⟩
  · intro h
    exact ⟨(h .a).1, (h .b).1, (h .a).2, (h .b).2⟩

/-- The entries of other lines stand when a line's entries leave the queue. -/
theorem filter_line_of_dropped {k n : Line} (h : k ≠ n) (q : List Entry) :
    (q.filter (fun e => e.line != n)).filter (fun e => e.line == k) = q.filter (fun e => e.line == k) := by
  rw [List.filter_filter]
  refine List.filter_congr fun e _ => ?_
  by_cases he : e.line = k
  · simp [he, h]
  · simp [he]

theorem filter_line_dropped_self (n : Line) (q : List Entry) :
    (q.filter (fun e => e.line != n)).filter (fun e => e.line == n) = [] := by
  rw [List.filter_filter, List.filter_eq_nil_iff]
  intro e _
  by_cases he : e.line = n <;> simp [he]

theorem length_filter_line (n : Line) (q : List Entry) :
    (q.filter (fun e => e.line != n)).length + (q.filter (fun e => e.line == n)).length = q.length := by
  have h := List.length_eq_length_filter_add (l := q) (fun e => e.line == n)
  have hn : (fun e : Entry => !(e.line == n)) = fun e => e.line != n := rfl
  rw [hn] at h
  omega

theorem queueHasRoom_iff (lt : LineTable) (x : Studio) : queueHasRoom lt x = true ↔ (queueOf lt x).length < 8 :=
  decide_eq_true_iff

/-- The other lines' entries after a record and a queue are replaced. -/
theorem queueGood_setRec {lt lt' : LineTable} {n : Line} {r : LineRec} {x : Studio} (h : QueueGood lt x)
    (hrecs : lt'.recs = lt.recs)
    (hn : (queueOf lt' x).filter (fun e => e.line == n) = entriesDue r.state n x)
    (hk : ∀ k, k ≠ n →
      (queueOf lt' x).filter (fun e => e.line == k) = (queueOf lt x).filter (fun e => e.line == k))
    (hlen : (queueOf lt' x).length ≤ 8) : QueueGood (setRec n r lt') x := by
  refine ⟨fun k => ?_, hlen⟩
  rw [queueOf_setRec, setRec_rec]
  by_cases hkn : k = n
  · subst hkn
    rw [if_pos rfl, hn]
  · rw [if_neg hkn, hk k hkn, h.1 k, hrecs]

theorem filter_line_singleton (n k : Line) (b : Bool) :
    ([⟨n, b⟩] : List Entry).filter (fun e => e.line == k) = if k = n then [⟨n, b⟩] else [] := by
  by_cases h : k = n
  · simp [h]
  · simp [h, Ne.symm h]

/-- Confirming an entry changes no entry's line. -/
theorem filter_line_confirmed (n k : Line) (q : List Entry) :
    (q.map (fun e => if e.line = n then { e with arriving := false } else e)).filter (fun e => e.line == k) =
      (q.filter (fun e => e.line == k)).map (fun e => if e.line = n then { e with arriving := false } else e) := by
  rw [List.filter_map]
  congr 1
  refine List.filter_congr fun e _ => ?_
  by_cases he : e.line = n <;> simp [he]

theorem queueGood_of_lineMove {lt lt' : LineTable} (hm : LineMove lt lt') (hd : DestLaw lt)
    (h : ∀ x, QueueGood lt x) (x : Studio) : QueueGood lt' x := by
  obtain ⟨hdue, hlen⟩ := h x
  cases hm with
  | fallback b => exact h x
  | stay hc hq => exact queueGood_setRec (h x) rfl ((hdue _).trans (hq x).symm) (fun _ _ => rfl) hlen
  | leave hc hq =>
    refine queueGood_setRec (h x) rfl ?_ (fun k hk => ?_) ?_ <;> rw [queueOf_dropEntry]
    · rw [filter_line_dropped_self, hq x]
    · exact filter_line_of_dropped hk _
    · exact (List.length_filter_le _ _).trans hlen
  | @join n r y b hc hroom hold hq =>
    refine queueGood_setRec (h x) rfl ?_ (fun k hk => ?_) ?_ <;> rw [queueOf_addEntry]
    · rw [List.filter_append, hdue, hold, List.nil_append, hq x]
      split
      · rw [filter_line_singleton, if_pos rfl]
      · rfl
    · rw [List.filter_append]
      split
      · rw [filter_line_singleton, if_neg hk, List.append_nil]
      · rw [List.filter_nil, List.append_nil]
    · rw [queueHasRoom_iff] at hroom
      split
      · next hx =>
        subst hx
        rw [List.length_append, List.length_singleton]
        omega
      · rwa [List.append_nil]
  | @requeue n r y hc hroom hq =>
    refine queueGood_setRec (h x) rfl ?_ (fun k hk => ?_) ?_ <;> rw [queueOf_addEntry, queueOf_dropEntry]
    · rw [List.filter_append, filter_line_dropped_self, List.nil_append, hq x]
      split
      · rw [filter_line_singleton, if_pos rfl]
      · rfl
    · rw [List.filter_append, filter_line_of_dropped hk]
      split
      · rw [filter_line_singleton, if_neg hk, List.append_nil]
      · rw [List.filter_nil, List.append_nil]
    · have hsplit := length_filter_line n (queueOf lt x)
      split
      · next hx =>
        subst hx
        rw [List.length_append, List.length_singleton]
        rcases hroom with hown | hroom
        · rw [hdue n, hown] at hsplit
          simp only [entriesDue, if_true, List.length_singleton] at hsplit
          omega
        · rw [queueHasRoom_iff] at hroom
          omega
      · rw [List.append_nil]
        omega
  | promote y n =>
    have hq : queueOf (promoteEntry y n lt) x =
        if x = y then (queueOf lt x).filter (fun e => e.line == n) ++ (queueOf lt x).filter (fun e => e.line != n)
        else queueOf lt x := by
      rw [promoteEntry, queueOf_setQueue]
      by_cases hx : x = y
      · rw [if_pos hx, if_pos hx, hx]
      · rw [if_neg hx, if_neg hx]
    unfold QueueGood
    rw [hq]
    split
    · refine ⟨fun k => ?_, ?_⟩
      · rw [List.filter_append, promoteEntry_recs, ← hdue k]
        by_cases hk : k = n
        · subst hk
          rw [filter_line_dropped_self, List.append_nil, List.filter_filter]
          simp
        · rw [filter_line_of_dropped hk, List.filter_filter, List.filter_eq_nil_iff.2, List.nil_append]
          intro e _ he
          simp only [Bool.and_eq_true, beq_iff_eq] at he
          exact hk (he.1.symm.trans he.2)
      · have := length_filter_line n (queueOf lt x)
        rw [List.length_append]
        omega
    · exact h x
  | @confirm n r y hc hold hq =>
    have hqueue : queueOf (confirmEntry y n lt) x =
        if x = y then (queueOf lt x).map (fun e => if e.line = n then { e with arriving := false } else e)
        else queueOf lt x := by
      rw [confirmEntry, queueOf_setQueue]
      by_cases hx : x = y
      · rw [if_pos hx, if_pos hx, hx]
      · rw [if_neg hx, if_neg hx]
    have hdueN := (hdue n).trans (hold (hd n) x)
    refine queueGood_setRec (h x) rfl ?_ (fun k hk => ?_) ?_ <;> rw [hqueue]
    · rw [hq x]
      split
      · next hx =>
        rw [filter_line_confirmed, hdueN, if_pos hx]
        simp
      · next hx => rw [hdueN, if_neg hx]
    · split
      · rw [filter_line_confirmed]
        refine (List.map_congr_left fun e he => ?_).trans (List.map_id _)
        have hek : e.line = k := by simpa using (List.mem_filter.1 he).2
        rw [if_neg (by rw [hek]; exact hk)]
        rfl
      · rfl
    · split
      · rwa [List.length_map]
      · exact hlen
  | free gone =>
    refine ⟨fun k => ?_, ?_⟩ <;> rw [queueOf_freeLines]
    · rw [freeLines_rec, List.filter_filter]
      cases hg : gone k with
      | true =>
        refine List.filter_eq_nil_iff.2 fun e _ he => ?_
        simp only [Bool.and_eq_true, beq_iff_eq, Bool.not_eq_true'] at he
        rw [he.1, hg] at he
        exact absurd he.2 (by simp)
      | false =>
        rw [if_neg Bool.false_ne_true, ← hdue k]
        refine List.filter_congr fun e _ => ?_
        by_cases he : e.line = k
        · simp [he, hg]
        · simp [he]
    · exact (List.length_filter_le _ _).trans hlen
  | tick =>
    refine ⟨fun k => (hdue k).trans ?_, hlen⟩
    rw [ofFn_get]
    unfold tickClearing
    split
    · next hst => rw [hst]; rfl
    · rfl

/-! ### The destinations (R63) -/

theorem destLaw_setRec {lt lt' : LineTable} {n : Line} {r : LineRec} (hd : DestLaw lt) (hrecs : lt'.recs = lt.recs)
    (hr : destLegal lt.recs[n].state = true → destLegal r.state = true) : DestLaw (setRec n r lt') := by
  intro k
  rw [setRec_rec]
  split
  · exact hr (hd n)
  · rw [hrecs]
    exact hd k

theorem tickClearing_cases (r : LineRec) :
    (∃ c, r.state = .clearing c ∧ tickClearing r = { r with state := .clearing (riseTo 2000 c) }) ∨
    tickClearing r = r := by
  unfold tickClearing
  split
  · exact .inl ⟨_, ‹_›, rfl⟩
  · exact .inr rfl

theorem destLaw_of_lineMove {lt lt' : LineTable} (hm : LineMove lt lt') (hd : DestLaw lt) : DestLaw lt' := by
  cases hm with
  | fallback b => exact hd
  | stay hc _ => exact destLaw_setRec hd rfl hc.dest
  | leave hc _ => exact destLaw_setRec hd rfl hc.dest
  | join hc _ _ _ => exact destLaw_setRec hd rfl hc.dest
  | requeue hc _ _ => exact destLaw_setRec hd rfl hc.dest
  | promote x n => exact hd
  | confirm hc _ _ => exact destLaw_setRec hd rfl hc.dest
  | free gone =>
    intro k
    rw [freeLines_rec]
    split
    · rfl
    · exact hd k
  | tick =>
    intro k
    rw [ofFn_get]
    rcases tickClearing_cases lt.recs[k] with ⟨c, -, h⟩ | h
    · rw [h]; rfl
    · rw [h]; exact hd k

/-! ### The capacities (R8, R51) -/

/-- What a line adds to the occupancy of a group (R8). -/
def weight (g : Group) (st : LineState) : Nat := (groupsOf st).count g

theorem length_filter_add (l : List Line) (p q : Line → Bool) :
    (l.filter p).length + (l.filter q).length =
      (l.map fun n => (if p n then 1 else 0) + if q n then 1 else 0).sum := by
  induction l with
  | nil => rfl
  | cons n l ih =>
    have hcons (t : Line → Bool) : ((n :: l).filter t).length = (l.filter t).length + if t n then 1 else 0 := by
      cases ht : t n <;> simp [ht]
    rw [List.map_cons, List.sum_cons, ← ih, hcons, hcons]
    omega

theorem count_toList (g : Group) (o : Option Group) : o.toList.count g = if o == some g then 1 else 0 := by
  cases o with
  | none => rfl
  | some a => by_cases h : a = g <;> simp [h]

theorem occupancy_eq_sum (lt : LineTable) (g : Group) :
    occupancy lt g = (allLines.map fun n => weight g lt.recs[n].state).sum := by
  rw [occupancy, members, holders, length_filter_add]
  simp only [weight, groupsOf, List.count_append, count_toList]

/-- A sum over all lines when one line's term changes. -/
theorem sum_map_changed {f f' : Line → Nat} {n : Line} (hf : ∀ k, k ≠ n → f' k = f k) :
    ∀ l : List Line, l.Nodup → n ∈ l → (l.map f').sum + f n = (l.map f).sum + f' n
  | [], _, h => absurd h List.not_mem_nil
  | k :: l, hl, h => by
    obtain ⟨hk, hl'⟩ := List.nodup_cons.1 hl
    simp only [List.map_cons, List.sum_cons]
    by_cases hkn : k = n
    · subst hkn
      have : l.map f' = l.map f := List.map_congr_left fun j hj => hf j fun e => hk (e ▸ hj)
      rw [this]
      omega
    · have ih := sum_map_changed hf l hl' ((List.mem_cons.1 h).resolve_left (Ne.symm hkn))
      rw [hf k hkn]
      omega

theorem occupancy_setRec {lt lt' : LineTable} (hrecs : lt'.recs = lt.recs) (n : Line) (r : LineRec) (g : Group) :
    occupancy (setRec n r lt') g + weight g lt.recs[n].state = occupancy lt g + weight g r.state := by
  rw [occupancy_eq_sum, occupancy_eq_sum]
  have hn : (setRec n r lt').recs[n] = r := by rw [setRec_rec, if_pos rfl]
  refine (sum_map_changed (f := fun k => weight g lt.recs[k].state)
    (f' := fun k => weight g (setRec n r lt').recs[k].state) (n := n)
    (fun k hk => by rw [setRec_rec, if_neg hk, hrecs]) allLines (by decide) (mem_allLines n)).trans ?_
  change _ + weight g (setRec n r lt').recs[n].state = _
  rw [hn]

/-- The law of one group's capacity. -/
theorem capacityLaw_iff (lt : LineTable) : CapacityLaw lt ↔ ∀ g, occupancy lt g ≤ capacity g := by
  constructor
  · rintro ⟨h1, h2, h3, h4, h5⟩ g
    match g with
    | .air .a => exact h1
    | .air .b => exact h2
    | .priv .a => exact h3
    | .priv .b => exact h4
    | .screen => exact h5
  · intro h
    exact ⟨h (.air .a), h (.air .b), h (.priv .a), h (.priv .b), h .screen⟩

theorem occupancy_le_of_change {lt lt' : LineTable} {n : Line} {r : LineRec} (hrecs : lt'.recs = lt.recs)
    (hc : Change lt n r) (h : ∀ g, occupancy lt g ≤ capacity g) (g : Group) :
    occupancy (setRec n r lt') g ≤ capacity g := by
  have hocc := occupancy_setRec hrecs n r g
  have hg := h g
  rcases hc.room with hsub | ⟨g', hroom, hsub⟩
  · have : weight g r.state ≤ weight g lt.recs[n].state := hsub.count_le g
    omega
  · have hw : weight g r.state ≤ weight g lt.recs[n].state + [g'].count g := by
      rw [weight, weight, ← List.count_append]
      exact hsub.count_le g
    by_cases hgg : g' = g
    · subst hgg
      have hlt : occupancy lt g' < capacity g' := of_decide_eq_true hroom
      rw [List.count_singleton_self] at hw
      omega
    · rw [List.count_singleton, if_neg (by simpa using hgg)] at hw
      omega

theorem capacity_of_lineMove {lt lt' : LineTable} (hm : LineMove lt lt') (h : ∀ g, occupancy lt g ≤ capacity g)
    (g : Group) : occupancy lt' g ≤ capacity g := by
  cases hm with
  | fallback b => exact h g
  | stay hc _ => exact occupancy_le_of_change rfl hc h g
  | leave hc _ => exact occupancy_le_of_change rfl hc h g
  | join hc _ _ _ => exact occupancy_le_of_change rfl hc h g
  | requeue hc _ _ => exact occupancy_le_of_change rfl hc h g
  | promote x n => exact h g
  | confirm hc _ _ => exact occupancy_le_of_change rfl hc h g
  | free gone =>
    refine le_trans ?_ (h g)
    rw [occupancy_eq_sum, occupancy_eq_sum]
    refine List.sum_le_sum fun k _ => ?_
    rw [freeLines_rec]
    split
    · exact Nat.zero_le _
    · exact le_rfl
  | tick =>
    refine le_trans (le_of_eq ?_) (h g)
    rw [occupancy_eq_sum, occupancy_eq_sum]
    refine congrArg List.sum (List.map_congr_left fun k _ => ?_)
    rw [ofFn_get]
    rcases tickClearing_cases lt.recs[k] with ⟨c, hst, ht⟩ | ht
    · rw [ht, hst]; rfl
    · rw [ht]

/-! ### The record ranges (R1) -/

theorem recordLaw_setRec {lt lt' : LineTable} {n : Line} {r : LineRec} (h : RecordLaw lt) (hrecs : lt'.recs = lt.recs)
    (hc : Change lt n r) : RecordLaw (setRec n r lt') := by
  intro k
  rw [setRec_rec]
  split
  · obtain ⟨hlevel, hret, hlen, hall, hcount⟩ := h n
    refine ⟨?_, ?_, ?_, ?_, hc.count hcount⟩
    · exact hc.level.elim (fun e => e ▸ hlevel) id
    · exact hc.ret.elim (fun e => e ▸ hret) id
    · exact hc.label.elim (fun e => e ▸ hlen) And.left
    · exact hc.label.elim (fun e => e ▸ hall) And.right
  · rw [hrecs]
    exact h k

theorem recordLaw_of_lineMove {lt lt' : LineTable} (hm : LineMove lt lt') (h : RecordLaw lt) : RecordLaw lt' := by
  cases hm with
  | fallback b => exact h
  | stay hc _ => exact recordLaw_setRec h rfl hc
  | leave hc _ => exact recordLaw_setRec h rfl hc
  | join hc _ _ _ => exact recordLaw_setRec h rfl hc
  | requeue hc _ _ => exact recordLaw_setRec h rfl hc
  | promote x n => exact h
  | confirm hc _ _ => exact recordLaw_setRec h rfl hc
  | free gone =>
    intro k
    rw [freeLines_rec]
    split
    · obtain ⟨hlevel, hret, -⟩ := h k
      exact ⟨hlevel, hret, Nat.zero_le _, rfl, rfl⟩
    · exact h k
  | tick =>
    intro k
    obtain ⟨hlevel, hret, hlen, hall, hcount⟩ := h k
    rw [ofFn_get]
    rcases tickClearing_cases lt.recs[k] with ⟨c, hst, ht⟩ | ht
    · rw [ht]
      rw [hst] at hcount
      exact ⟨hlevel, hret, hlen, hall, decide_eq_true (riseTo_le (of_decide_eq_true hcount))⟩
    · rw [ht]
      exact h k

end Sys2Proof.Proofs.LineMoves
end

section
/-! PROOFS. What an owner's decision can do, said once: it leaves everything as it is, or it makes changes of its own
block that keep the block's laws, and it hands notices to every controller alike. -/

namespace Sys2Proof.Proofs.Owners

open Sys2Proof Sys2Proof.Machine Sys2Proof.Safety Sys2Proof.Claims
open Sys2Proof.Proofs.Talk Sys2Proof.Proofs.Decisions Sys2Proof.Proofs.LineMoves

/-! ### The laws block by block -/

/-- The settings and the runs of a studio context lie in their ranges (R100, R103). -/
def StudioGood (c : StudioCtx) : Prop := StudioLaw c ∧ FeedRunLaw c.stem ∧ FeedRunLaw c.safe

/-- The Context Store's values lie in their ranges (R100). -/
def CtxGood (c : ContextStore) : Prop :=
  (∀ x, StudioGood (c.studios.get x)) ∧ c.screen.duck ≤ 4 ∧ c.screen.gain ≤ 32767

/-- The base gains of a studio are gain codes (R75). -/
def GainsGood (g : BaseGains) : Prop := g.stem ≤ 32767 ∧ g.hold ≤ 32767 ∧ g.priv ≤ 32767

/-- Every current gain is a gain code (R75, R82). -/
def CurrentGood (m : MixEngine) : Prop :=
  (∀ n : Line, m.send[n] ≤ 32767 ∧ m.ret[n] ≤ 32767) ∧ (∀ x, GainsGood (m.gains.get x)) ∧ m.screenTalk ≤ 32767

/-- The talk gains and timeouts lie in their ranges (R115). -/
def TalkGood (t : TalkArbiter) : Prop := ∀ d : Desk, t.gain[d] ≤ 32767 ∧ t.timeout[d] ≤ 255

/-- A line's path values lie in their ranges, and a forced mode stays on its path (R131, R134, R137). -/
def PathGood (p : PathLine) : Prop :=
  (PathRunLaw p.primary ∧ PathRunLaw p.alternate ∧ p.arrival ≤ 20 ∧ p.gone ≤ 200 ∧ 1 ≤ p.failThr ∧ p.failThr ≤ 64 ∧
    1 ≤ p.revertThr ∧ p.revertThr ≤ 60000) ∧ ModeLaw p

/-! ### The changes of the Talk Arbiter -/

/-- What a step can do to the Talk Arbiter (chapter 6). -/
inductive TalkMove (t : TalkArbiter) : TalkArbiter → Prop
  /-- a desk with a LIVE link view takes a hold (R118) -/
  | grant (d : Desk) (n : Line) (start : BlockNo) (h : t.view[d] = .live) :
      TalkMove t { t with holds := t.holds.set n (some ⟨d, start⟩) }
  /-- holds are released (R121 to R124) -/
  | release {v : Vector (Option Hold) 16} (h : ∀ n : Line, v[n] = none ∨ v[n] = t.holds[n]) :
      TalkMove t { t with holds := v }
  /-- a link goes LIVE (R122) -/
  | live (d : Desk) : TalkMove t { t with view := t.view.set d .live }
  /-- a link goes LOST, and that desk holds no line any more (R122) -/
  | lost (d : Desk) {v : Vector (Option Hold) 16}
      (h : ∀ n : Line, v[n] = none ∨ (v[n] = t.holds[n] ∧ (t.holds[n]).map Hold.holder ≠ some d)) :
      TalkMove t { t with view := t.view.set d .lost, holds := v }
  /-- SET-TALK-GAIN (R126) -/
  | gain (e : Desk) {v : Nat} (h : v ≤ 32767) : TalkMove t { t with gain := t.gain.set e v }
  /-- SET-TALK-TIMEOUT (R127) -/
  | timeout (e : Desk) {v : Nat} (h : v ≤ 255) : TalkMove t { t with timeout := t.timeout.set e v }

/-! ### The changes of one block -/

/-- One change a block makes by itself: notices handed to every controller, events handed between blocks, a map, or a
change of one block that keeps its law. -/
inductive Work (s : State) : State → Prop
  | offers (ns : List Notice) : Work s (offerMany ns s)
  | wires (v : Wires) : Work s (s.withWires v)
  | maps (v : SlotMap) : Work s (s.withMaps v)
  | lines {v : LineTable} (h : LineMove s.lines v) : Work s (s.withLines v)
  | talk {v : TalkArbiter} (h : TalkMove s.talk v) : Work s (s.withTalk v)
  | ctx {v : ContextStore} (h : CtxGood s.ctx → CtxGood v) : Work s (s.withCtx v)
  | mix {v : MixEngine} (hc : RecordLaw s.lines → CtxGood s.ctx → CurrentGood s.mix → CurrentGood v)
      (ho : OutputLaw s.mix → OutputLaw v) : Work s (s.withMix v)
  | paths {v : Vector PathLine 16} (h : ∀ n : Line, PathGood s.paths[n] → PathGood v[n]) : Work s (s.withPaths v)
  | lanes {v : LaneInterface} (h : ClockLaw s.lanes → ClockLaw v) : Work s (s.withLanes v)

/-- Changes one after another. -/
abbrev Works : State → State → Prop := Relation.ReflTransGen Work

theorem Works.of {s t : State} (h : Work s t) : Works s t := Relation.ReflTransGen.single h

/-- A change and the one notice it raises. -/
theorem Work.noticed {s t : State} (h : Work s t) (n : Notice) : Works s (offerAll n t) :=
  (Works.of h).tail (.offers [n])

/-- The blocks' own changes hand notices to every controller alike, and touch no controller otherwise. -/
theorem Works.offers {s t : State} (h : Works s t) :
    ∃ ns, ∀ e : Desk, t.desk e = { s.desk e with offered := (s.desk e).offered ++ ns } := by
  induction h with
  | refl => exact ⟨[], fun e => by simp⟩
  | tail _ hw ih =>
    obtain ⟨ns, ih⟩ := ih
    cases hw with
    | offers ms => exact ⟨ns ++ ms, fun e => by rw [offerMany_desk, ih e, List.append_assoc]⟩
    | _ => exact ⟨ns, ih⟩

/-- No block but the Loader changes the Loader. -/
theorem Works.loader_eq {s t : State} (h : Works s t) : t.loader = s.loader := by
  induction h with
  | refl => rfl
  | tail _ hw ih =>
    rw [← ih]
    cases hw <;> rfl

/-! ### The changes a line command makes -/

theorem commit_works {s : State} {lt : LineTable} (h : LineMove s.lines lt) : Works s (commit lt s) :=
  ((Works.of (.lines h)).tail (.offers _)).tail (.wires _)

/-- Line n put into a state whose fields keep the laws. -/
theorem Change.state {lt : LineTable} {n : Line} {st : LineState} (hdest : destLegal st = true)
    (hroom : (groupsOf st).Sublist (groupsOf lt.recs[n].state) ∨
      ∃ g, groupHasRoom lt g = true ∧ (groupsOf st).Sublist (groupsOf lt.recs[n].state ++ [g]))
    (hcount : countLegal st = true) : Change lt n { lt.recs[n] with state := st } :=
  { dest := fun _ => hdest, room := hroom, count := fun _ => hcount }

/-- A line put into a state with no due entry and no group but one with room. -/
theorem Change.join {lt : LineTable} {n : Line} {st : LineState} {g : Group} (hdest : destLegal st = true)
    (hcount : countLegal st = true) (hg : groupsOf st = [g]) (hroom : groupHasRoom lt g = true) :
    Change lt n { lt.recs[n] with state := st } :=
  Change.state hdest (.inr ⟨g, hroom, hg ▸ List.sublist_append_right _ _⟩) hcount

/-- A line put into a state in no group. -/
theorem Change.out {lt : LineTable} {n : Line} {st : LineState} (hg : groupsOf st = []) (hdest : destLegal st = true)
    (hcount : countLegal st = true) : Change lt n { lt.recs[n] with state := st } :=
  Change.state hdest (.inl (hg ▸ List.nil_sublist _)) hcount

/-- A steady member starts a leave for which the group of its reservation, if any, has room. -/
theorem change_startLeave {lt : LineTable} {n : Line} {st : LineState} {t : Dest} (hst : lt.recs[n].state = st)
    (hdest : destLegal (withPhase (.leaving t) st) = true)
    (hroom : (groupsOf (withPhase (.leaving t) st)).Sublist (groupsOf st) ∨
      ∃ g, groupHasRoom lt g = true ∧ (groupsOf (withPhase (.leaving t) st)).Sublist (groupsOf st ++ [g]))
    (hcount : countLegal (withPhase (.leaving t) st) = true) (home : Studio) (tag : LeaveTag) :
    Change lt n { lt.recs[n] with state := withPhase (.leaving t) lt.recs[n].state, tag := tag, home := home } := by
  subst hst
  exact { dest := fun _ => hdest, room := hroom, count := fun _ => hcount }

theorem lineMove_startLeave {lt : LineTable} {n : Line} {st : LineState} {t : Dest} (hst : lt.recs[n].state = st)
    (hdest : destLegal (withPhase (.leaving t) st) = true)
    (hroom : (groupsOf (withPhase (.leaving t) st)).Sublist (groupsOf st) ∨
      ∃ g, groupHasRoom lt g = true ∧ (groupsOf (withPhase (.leaving t) st)).Sublist (groupsOf st ++ [g]))
    (hcount : countLegal (withPhase (.leaving t) st) = true)
    (hq : ∀ x, entriesDue (withPhase (.leaving t) st) n x = entriesDue st n x) : LineMove lt (startLeave n t lt) :=
  .stay (change_startLeave hst hdest hroom hcount _ _) (by subst hst; exact hq)

/-! ### The line commands -/

theorem line_state_eq {s : State} {n : Line} {st : LineState} (h : (s.line n).state = st) :
    s.lines.recs[n].state = st := h

theorem joinGroup_works {g : Group} {st : LineState} {n : Line} {data : List Byte} {s : State}
    (hdest : destLegal st = true) (hcount : countLegal st = true) (hg : groupsOf st = [g])
    (hq : ∀ x, entriesDue st n x = entriesDue (s.line n).state n x) :
    Works s (joinGroup g st n data s).state := by
  unfold joinGroup
  split
  · next hroom => exact commit_works (.stay (Change.join hdest hcount hg hroom) hq)
  · exact .refl

theorem joinFromQueue_works {g : Group} {st : LineState} {n : Line} {data : List Byte} {s : State}
    (hdest : destLegal st = true) (hcount : countLegal st = true) (hg : groupsOf st = [g])
    (hq : ∀ x, entriesDue st n x = []) : Works s (joinFromQueue g st n data s).state := by
  unfold joinFromQueue
  split
  · next hroom => exact commit_works (.leave (Change.join hdest hcount hg hroom) hq)
  · exact .refl

/-- A line command that is refused leaves the state, and one that passes the checks does what its body does. -/
theorem lineCommand_works {op : Op} {snd : Sender} {line : Byte} {s : State} {body : Line → Decision}
    (hb : ∀ n, Works s (body n).state) : Works s (lineCommand op snd line s body).state := by
  rcases lineCommand_cases op snd line s body with ⟨r, h⟩ | ⟨n, -, -, h⟩
  · rw [h]; exact .refl
  · rw [h]; exact hb n

theorem settingCommand_works {op : Op} {snd : Sender} {line : Byte} {s : State} {body : Line → Decision}
    (hb : ∀ n, Works s (body n).state) : Works s (settingCommand op snd line s body).state :=
  lineCommand_works fun n => by
    split
    · exact .refl
    · exact hb n

theorem decideAnswer_works (snd : Sender) (line : Byte) (args : List Byte) (s : State) :
    Works s (decideAnswer snd line args s).state :=
  lineCommand_works fun n => by
    split
    · next h => exact joinGroup_works rfl rfl rfl fun x => by rw [h]; rfl
    · next h => exact joinGroup_works rfl rfl rfl fun x => by rw [h]; rfl
    · exact .refl

theorem decideHold_works (snd : Sender) (line : Byte) (args : List Byte) (s : State) :
    Works s (decideHold snd line args s).state :=
  lineCommand_works fun n => by
    split
    · next h => exact commit_works (.stay (Change.out rfl rfl rfl) fun x => by rw [line_state_eq h]; rfl)
    · next h => exact commit_works (lineMove_startLeave h rfl (.inl (List.Sublist.refl _)) rfl fun _ => rfl)
    · exact .refl

theorem dueIn_queued (n : Line) (x : Studio) : DueIn (.queued x) n x false := fun y => by
  by_cases h : x = y
  · simp [entriesDue, h]
  · simp [entriesDue, h, Ne.symm h]

theorem dueIn_arriving (n : Line) (x : Studio) : DueIn (.screen (.leaving (.queued x))) n x true := fun y => by
  by_cases h : x = y
  · simp [entriesDue, h]
  · simp [entriesDue, h, Ne.symm h]

theorem moveToTail_works {n : Line} {own named : Studio} {s : State} (h : (s.line n).state = .queued own) :
    Works s (moveToTail n own named s).state := by
  simp only [moveToTail]
  split
  · next hroom =>
    refine commit_works (.requeue (Change.out rfl rfl rfl) ?_ (dueIn_queued n named))
    exact hroom.imp (fun e => by rw [← e]; exact h) id
  · exact .refl

theorem decideQueue_works (snd : Sender) (line : Byte) (args : List Byte) (s : State) :
    Works s (decideQueue snd line args s).state := by
  unfold decideQueue
  split
  · exact .refl
  · next x _ =>
    refine lineCommand_works fun n => ?_
    have htail (h : ∀ y, entriesDue s.lines.recs[n].state n y = []) (hroom : queueHasRoom s.lines x = true) :
        Works s (commit (setState n (.queued x) (addEntry x n false s.lines)) s) :=
      commit_works (.join (Change.out rfl rfl rfl) hroom h (dueIn_queued n x))
    split
    · next h =>
      simp only
      split
      · next hroom => exact htail (fun y => by rw [line_state_eq h]; rfl) hroom
      · exact .refl
    · next h =>
      simp only
      split
      · next hroom => exact htail (fun y => by rw [line_state_eq h]; rfl) hroom
      · exact .refl
    · next h =>
      simp only
      split
      · next hroom =>
        refine commit_works (.join (change_startLeave h ?_ (.inl (List.Sublist.refl _)) rfl _ _) hroom
          (fun y => by rw [line_state_eq h]; rfl) ?_)
        · cases x <;> rfl
        · change DueIn (withPhase (.leaving (.queued x)) (s.line n).state) n x true
          rw [h]
          exact dueIn_arriving n x
      · exact .refl
    · next h =>
      split
      · exact .refl
      · exact moveToTail_works h
    · exact .refl

theorem decideRecall_works (snd : Sender) (line : Byte) (args : List Byte) (s : State) :
    Works s (decideRecall snd line args s).state :=
  lineCommand_works fun n => by
    split
    · split
      · exact .refl
      · exact joinFromQueue_works rfl rfl rfl fun _ => rfl
    · exact .refl

theorem decidePromote_works (snd : Sender) (line : Byte) (args : List Byte) (s : State) :
    Works s (decidePromote snd line args s).state :=
  lineCommand_works fun n => by
    split
    · exact commit_works (.promote _ n)
    · exact .refl

theorem decideGive_works (snd : Sender) (line : Byte) (args : List Byte) (s : State) :
    Works s (decideGive snd line args s).state := by
  unfold decideGive
  split
  · exact .refl
  · refine lineCommand_works fun n => ?_
    split
    · next h =>
      split
      · exact moveToTail_works h
      · exact .refl
    · exact .refl

/-- A steady member of a group starts a leave into another group with room. -/
theorem leaveInto_works {g : Group} {t : Dest} {st : LineState} {n : Line} {data : List Byte} {s : State}
    (h : (s.line n).state = st) (hdest : destLegal (withPhase (.leaving t) st) = true)
    (hg : groupsOf (withPhase (.leaving t) st) = groupsOf st ++ [g])
    (hcount : countLegal (withPhase (.leaving t) st) = true)
    (hq : ∀ x, entriesDue (withPhase (.leaving t) st) n x = entriesDue st n x) :
    Works s (leaveInto g t n data s).state := by
  unfold leaveInto
  split
  · next hroom => exact commit_works (lineMove_startLeave h hdest (.inr ⟨g, hroom, hg ▸ .refl _⟩) hcount hq)
  · exact .refl

theorem takeLine_works (x : Studio) (n : Line) (s : State) : Works s (takeLine x n s).state := by
  unfold takeLine
  split
  · split
    · exact joinFromQueue_works rfl rfl rfl fun _ => rfl
    · exact .refl
  · next h =>
    split
    · exact joinGroup_works rfl rfl rfl fun y => by rw [h]; rfl
    · exact .refl
  · next y h =>
    split
    · next hy =>
      subst hy
      exact leaveInto_works h (by cases y <;> rfl) rfl rfl fun _ => rfl
    · exact .refl
  · next y t h =>
    split
    · next hy =>
      subst hy
      refine commit_works (.leave (Change.state rfl (.inl ?_) rfl) fun _ => rfl)
      rw [line_state_eq h]
      exact List.sublist_append_left _ _
    · exact .refl
  · exact .refl

theorem decideTake_works (snd : Sender) (line : Byte) (args : List Byte) (s : State) :
    Works s (decideTake snd line args s).state :=
  lineCommand_works fun n => by
    split
    · exact .refl
    · exact takeLine_works _ n s

theorem decideTakeNext_works (snd : Sender) (line : Byte) (args : List Byte) (s : State) :
    Works s (decideTakeNext snd line args s).state := by
  unfold decideTakeNext
  split
  · exact .refl
  · split
    · exact .refl
    · split
      · exact .refl
      · split
        · exact .refl
        · exact takeLine_works _ _ s

theorem decidePrivate_works (snd : Sender) (line : Byte) (args : List Byte) (s : State) :
    Works s (decidePrivate snd line args s).state :=
  lineCommand_works fun n => by
    generalize senderStudio snd = o
    split
    · split
      · exact joinFromQueue_works rfl rfl rfl fun _ => rfl
      · exact .refl
    · next h =>
      split
      · exact joinGroup_works rfl rfl rfl fun y => by rw [h]; rfl
      · exact .refl
    · next y h =>
      split
      · next hy =>
        subst hy
        exact leaveInto_works h (by cases y <;> rfl) rfl rfl fun _ => rfl
      · exact .refl
    · exact .refl

theorem setRec_setRec (n : Line) (r r' : LineRec) (lt : LineTable) : setRec n r' (setRec n r lt) = setRec n r' lt := by
  simp only [setRec, Vector.set_set]

theorem parkLine_eq (x : Studio) (n : Line) (s : State) :
    parkLine x n s = commit (setRec n { s.line n with
      state := withPhase (.leaving .hold) (s.line n).state, home := x, tag := (s.line n).tag + 1 } s.lines) s := by
  have hrec : (startLeave n .hold s.lines).recs[n] =
      { s.line n with state := withPhase (.leaving .hold) (s.line n).state, tag := (s.line n).tag + 1 } :=
    (setRec_rec n n _ s.lines).trans (if_pos rfl)
  simp only [parkLine, hrec]
  rw [startLeave, setRec_setRec]

theorem parkLine_works {x : Studio} {n : Line} {st : LineState} {s : State} (h : (s.line n).state = st)
    (hdest : destLegal (withPhase (.leaving .hold) st) = true)
    (hg : groupsOf (withPhase (.leaving .hold) st) = groupsOf st)
    (hcount : countLegal (withPhase (.leaving .hold) st) = true)
    (hq : ∀ y, entriesDue (withPhase (.leaving .hold) st) n y = entriesDue st n y) : Works s (parkLine x n s) := by
  rw [parkLine_eq]
  exact commit_works (.stay (change_startLeave h hdest (.inl (hg ▸ .refl _)) hcount _ _) (by subst h; exact hq))

theorem decidePark_works (snd : Sender) (line : Byte) (args : List Byte) (s : State) :
    Works s (decidePark snd line args s).state :=
  lineCommand_works fun n => by
    generalize senderStudio snd = o
    split
    · next h =>
      split
      · exact parkLine_works h rfl rfl rfl fun _ => rfl
      · exact .refl
    · next h =>
      split
      · exact parkLine_works h rfl rfl rfl fun _ => rfl
      · exact .refl
    · exact .refl

/-- DROP of a member: its leave starts, or its destination becomes CLEARING. -/
theorem dropMember_works {n : Line} {st : LineState} {s : State} (h : (s.line n).state = st)
    (hdest : destLegal (withPhase (.leaving .clearing) st) = true)
    (hg : (groupsOf (withPhase (.leaving .clearing) st)).Sublist (groupsOf st))
    (hcount : countLegal (withPhase (.leaving .clearing) st) = true)
    (hq : ∀ x, entriesDue (withPhase (.leaving .clearing) st) n x = [])
    (hq' : destOf st = none → ∀ x, entriesDue st n x = []) : Works s (dropMember n s).state := by
  unfold dropMember
  rw [h]
  split
  · next ht => exact commit_works (lineMove_startLeave h hdest (.inl hg) hcount fun x => (hq x).trans (hq' ht x).symm)
  · refine commit_works (.leave (Change.state hdest (.inl ?_) hcount) hq)
    rw [line_state_eq h]
    exact hg

theorem decideDrop_works (snd : Sender) (line : Byte) (args : List Byte) (s : State) :
    Works s (decideDrop snd line args s).state :=
  lineCommand_works fun n => by
    have hclear : Works s (commit (enterClearing n s.lines) s) :=
      commit_works (.leave (Change.out rfl rfl rfl) fun _ => rfl)
    split
    · exact hclear
    · exact hclear
    · exact hclear
    · next p h =>
      refine dropMember_works h rfl (List.sublist_append_left _ _) rfl (fun _ => rfl) fun ht x => ?_
      cases p with
      | steady => rfl
      | leaving t => exact absurd ht (by simp [destOf])
    · next h => exact dropMember_works h rfl (List.sublist_append_left _ _) rfl (fun _ => rfl) fun _ _ => rfl
    · next h => exact dropMember_works h rfl (List.sublist_append_left _ _) rfl (fun _ => rfl) fun _ _ => rfl
    · exact .refl
    · exact .refl

/-! ### Settings -/

theorem clampGain_le (v : Nat) : clampGain v ≤ 32767 := (clampTo_bounds (Nat.zero_le _) v).2

/-- A line setting replaced keeps the line's place. -/
theorem setting_works {n : Line} {r : LineRec} {s : State} (hst : r.state = (s.line n).state)
    (hlevel : r.level = (s.line n).level ∨ r.level ≤ 32767) (hret : r.ret = (s.line n).ret ∨ r.ret ≤ 32767)
    (hlabel : r.label = (s.line n).label ∨ (r.label.length ≤ 24 ∧ r.label.all printable = true)) :
    Works s (commit (setRec n r s.lines) s) := by
  have hst' : r.state = s.lines.recs[n].state := hst
  have hc : Change s.lines n r :=
    ⟨fun h => hst' ▸ h, .inl (hst' ▸ .refl _), fun h => hst' ▸ h, hlevel, hret, hlabel⟩
  exact commit_works (.stay hc fun x => by rw [hst'])

theorem decideSetLevel_works (snd : Sender) (line : Byte) (args : List Byte) (s : State) :
    Works s (decideSetLevel snd line args s).state := by
  unfold decideSetLevel
  split
  · exact settingCommand_works fun n => setting_works rfl (.inr (clampGain_le _)) (.inl rfl) (.inl rfl)
  · exact .refl

theorem decideSetReturn_works (snd : Sender) (line : Byte) (args : List Byte) (s : State) :
    Works s (decideSetReturn snd line args s).state := by
  unfold decideSetReturn
  split
  · exact settingCommand_works fun n => setting_works rfl (.inl rfl) (.inr (clampGain_le _)) (.inl rfl)
  · exact .refl

theorem decideSetLabel_works (snd : Sender) (line : Byte) (args : List Byte) (s : State) :
    Works s (decideSetLabel snd line args s).state := by
  unfold decideSetLabel
  split
  · next hall =>
    refine settingCommand_works fun n => setting_works rfl (.inl rfl) (.inl rfl) (.inr ⟨List.length_take_le _ _, ?_⟩)
    rw [List.all_eq_true] at hall ⊢
    exact fun b hb => hall b (List.mem_of_mem_take hb)
  · exact .refl

theorem decideSetHome_works (snd : Sender) (line : Byte) (args : List Byte) (s : State) :
    Works s (decideSetHome snd line args s).state := by
  unfold decideSetHome
  split
  · exact .refl
  · refine lineCommand_works fun n => ?_
    split
    · exact setting_works rfl (.inl rfl) (.inl rfl) (.inl rfl)
    · exact setting_works rfl (.inl rfl) (.inl rfl) (.inl rfl)
    · exact .refl

/-- A path mode taken as pending changes neither the mode nor the active path. -/
theorem takeMode_cases (m : PathMode) (p : PathLine) : takeMode m p = p ∨ takeMode m p = { p with pending := some m } := by
  unfold takeMode
  split
  · exact .inl rfl
  · exact .inr rfl

theorem pathGood_takeMode {p : PathLine} (m : PathMode) (h : PathGood p) : PathGood (takeMode m p) := by
  rcases takeMode_cases m p with e | e
  · rw [e]; exact h
  · rw [e]; exact h

/-- One line's paths replaced. -/
theorem setPath_works {n : Line} {p : PathLine} {s : State} (h : PathGood s.paths[n] → PathGood p) :
    Works s (setPath n p s) :=
  .of (.paths fun k hk => by
    rw [set_get]
    split
    · next e => subst e; exact h hk
    · exact hk)

theorem decideForcePath_works (snd : Sender) (line : Byte) (args : List Byte) (s : State) :
    Works s (decideForcePath snd line args s).state := by
  unfold decideForcePath
  split
  · exact .refl
  · refine settingCommand_works fun n => ?_
    split
    · exact .refl
    · exact setPath_works (pathGood_takeMode _)

theorem pathGood_withTiming {p : PathLine} {f r : Nat} {b : Bool} (hf : 1 ≤ f ∧ f ≤ 64) (hr : 1 ≤ r ∧ r ≤ 60000)
    (h : PathGood p) : PathGood (withTiming f r b p) := by
  obtain ⟨⟨hp, ha, harr, hgone, -⟩, hmode⟩ := h
  exact ⟨⟨hp, ha, harr, hgone, hf.1, hf.2, hr.1, hr.2⟩, hmode⟩

theorem clampFail_bounds (v : Nat) : 1 ≤ clampFail v ∧ clampFail v ≤ 64 := clampTo_bounds (by omega) v

theorem clampRevert_bounds (v : Nat) : 1 ≤ clampRevert v ∧ clampRevert v ≤ 60000 := clampTo_bounds (by omega) v

theorem decideSetPathTiming_works (snd : Sender) (line : Byte) (args : List Byte) (s : State) :
    Works s (decideSetPathTiming snd line args s).state := by
  unfold decideSetPathTiming
  split
  · split
    · exact .refl
    · simp only
      split
      · exact .refl
      · refine .of (.paths fun n hn => ?_)
        rw [ofFn_get]
        split
        · exact pathGood_withTiming (clampFail_bounds _) (clampRevert_bounds _) hn
        · exact hn
  · exact .refl

/-! ### Context settings -/

theorem contextCommand_works {snd : Sender} {c : Context} {s : State} {body : Decision} (h : Works s body.state) :
    Works s (contextCommand snd c s body).state := by
  unfold contextCommand
  split
  · exact h
  · exact .refl

theorem studios_get_set (p : PerStudio StudioCtx) (x y : Studio) (c : StudioCtx) :
    (p.set x c).get y = if y = x then c else p.get y := by
  cases x <;> cases y <;> rfl

/-- A studio context replaced by one in its ranges. -/
theorem ctxGood_setStudio {ctx : ContextStore} {x : Studio} {c : StudioCtx} (h : CtxGood ctx)
    (hc : StudioGood (ctx.studios.get x) → StudioGood c) :
    CtxGood { ctx with studios := ctx.studios.set x c } := by
  obtain ⟨hst, hscreen⟩ := h
  refine ⟨fun y => ?_, hscreen⟩
  rw [studios_get_set]
  split
  · exact hc (hst x)
  · exact hst y

/-- A conference setting leaves every number. -/
theorem ctxGood_withConf {c : Context} {sel : Byte} {on : Bool} {ctx ctx' : ContextStore}
    (h : withConf c sel on ctx = some ctx') (hg : CtxGood ctx) : CtxGood ctx' := by
  unfold withConf at h
  split at h
  · obtain rfl := Option.some.inj h
    exact ctxGood_setStudio hg id
  · obtain rfl := Option.some.inj h
    exact ctxGood_setStudio hg id
  · obtain rfl := Option.some.inj h
    exact hg
  · exact absurd h (by simp)

theorem ctxGood_withCtxGain {c : Context} {sel : Byte} {v : Nat} {ctx ctx' : ContextStore} (hv : v ≤ 32767)
    (h : withCtxGain c sel v ctx = some ctx') (hg : CtxGood ctx) : CtxGood ctx' := by
  unfold withCtxGain at h
  split at h
  · obtain rfl := Option.some.inj h
    exact ctxGood_setStudio hg fun ⟨⟨hd, _, hr⟩, hf⟩ => ⟨⟨hd, hv, hr⟩, hf⟩
  · obtain rfl := Option.some.inj h
    exact ctxGood_setStudio hg fun ⟨⟨hd, hs, _, hr⟩, hf⟩ => ⟨⟨hd, hs, hv, hr⟩, hf⟩
  · obtain rfl := Option.some.inj h
    exact ctxGood_setStudio hg fun ⟨⟨hd, hs, hh, _, hr⟩, hf⟩ => ⟨⟨hd, hs, hh, hv, hr⟩, hf⟩
  · obtain rfl := Option.some.inj h
    exact ⟨hg.1, hg.2.1, hv⟩
  · exact absurd h (by simp)

theorem ctxGood_withDuck {c : Context} {v : Nat} {ctx : ContextStore} (hv : v ≤ 4) (hg : CtxGood ctx) :
    CtxGood (withDuck c v ctx) := by
  cases c with
  | studio x => exact ctxGood_setStudio hg fun ⟨⟨_, hr⟩, hf⟩ => ⟨⟨hv, hr⟩, hf⟩
  | screen => exact ⟨hg.1, hv, hg.2.2⟩

theorem decideSetConf_works (snd : Sender) (line : Byte) (args : List Byte) (s : State) :
    Works s (decideSetConf snd line args s).state := by
  unfold decideSetConf
  split
  · split
    · split
      · exact .refl
      · next h => exact contextCommand_works (.of (.ctx (ctxGood_withConf h)))
    · exact .refl
  · exact .refl

theorem decideSetCtxGain_works (snd : Sender) (line : Byte) (args : List Byte) (s : State) :
    Works s (decideSetCtxGain snd line args s).state := by
  unfold decideSetCtxGain
  split
  · split
    · exact .refl
    · simp only
      split
      · exact .refl
      · next h => exact contextCommand_works (.of (.ctx (ctxGood_withCtxGain (clampGain_le _) h)))
  · exact .refl

theorem decideSetDuck_works (snd : Sender) (line : Byte) (args : List Byte) (s : State) :
    Works s (decideSetDuck snd line args s).state := by
  unfold decideSetDuck
  split
  · split
    · exact .refl
    · exact contextCommand_works (.of (.ctx (ctxGood_withDuck (clampTo_bounds (Nat.zero_le _) _).2)))
  · exact .refl

theorem decideSetStemTiming_works (snd : Sender) (line : Byte) (args : List Byte) (s : State) :
    Works s (decideSetStemTiming snd line args s).state := by
  unfold decideSetStemTiming
  split
  · split
    · refine contextCommand_works (.of (.ctx fun hg => ctxGood_setStudio hg ?_))
      rintro ⟨⟨hd, hs, hh, hp, -⟩, hf⟩
      exact ⟨⟨hd, hs, hh, hp, (clampFail_bounds _).1, (clampFail_bounds _).2, clampRevert_bounds _⟩, hf⟩
    · exact .refl
  · exact .refl

/-! ### Talk -/

theorem presentLine_works {line : Byte} {s : State} {body : Line → Decision} (hb : ∀ n, Works s (body n).state) :
    Works s (presentLine line s body).state := by
  unfold presentLine
  split
  · exact .refl
  · split
    · exact .refl
    · split
      · exact .refl
      · exact hb _

theorem viewLive_of_passesTalkRights {s : State} {d : Desk} {n : Line}
    (h : passesTalkRights s (.desk d) n = true) : s.talk.view[d] = .live := by
  have hv : viewLive s d = true := by
    simp only [passesTalkRights, talkRights, talkRightsWith, Bool.or_eq_true, Bool.and_eq_true] at h
    exact h.elim And.left And.right
  exact eq_of_beq hv

theorem claimTalk_works {d : Desk} {n : Line} {s : State} (h : s.talk.view[d] = .live) :
    Works s (claimTalk d n s).state := by
  have hgrant : Works s (grantTo d n s) := .of (.talk (.grant d n s.lanes.block h))
  unfold claimTalk
  split
  · exact hgrant.tail (.offers _)
  · split
    · exact hgrant
    · split
      · exact hgrant.tail (.offers _)
      · exact .refl

/-- The holds of the picked lines released (R121 to R124). -/
theorem releases_works (p : Line → Bool) (cause : TalkCause) (s : State) : Works s (releases p cause s) := by
  rw [releases_eq_clearHolds]
  refine (Works.of (.talk (.release fun n => ?_))).tail (.offers _)
  rw [ofFn_get]
  split
  · exact .inl rfl
  · exact .inr rfl

theorem releaseHold_works (n : Line) (cause : TalkCause) (s : State) : Works s (releaseHold n cause s) := by
  rw [releaseHold_eq]
  refine (Works.of (.talk (.release fun k => ?_))).tail (.offers _)
  rw [set_get]
  split
  · exact .inl rfl
  · exact .inr rfl

theorem decideTalkOn_works (snd : Sender) (line : Byte) (args : List Byte) (s : State) :
    Works s (decideTalkOn snd line args s).state :=
  presentLine_works fun n => by
    split
    · exact .refl
    · next hp =>
      split
      · exact .refl
      · split
        · exact .refl
        · cases snd with
          | desk d => exact claimTalk_works (viewLive_of_passesTalkRights (by simpa using hp))
          | loader => exact .refl

theorem decideTalkOff_works (snd : Sender) (line : Byte) (args : List Byte) (s : State) :
    Works s (decideTalkOff snd line args s).state :=
  presentLine_works fun n => by
    split
    · exact .refl
    · split
      · split
        · exact releaseHold_works _ _ s
        · exact .refl
      · split <;> exact .refl
      · exact .refl

theorem decideSetTalkGain_works (snd : Sender) (line : Byte) (args : List Byte) (s : State) :
    Works s (decideSetTalkGain snd line args s).state := by
  unfold decideSetTalkGain
  split
  · split
    · exact .refl
    · simp only
      generalize hv : clampGain _ = v
      have hle : v ≤ 32767 := hv ▸ clampGain_le _
      cases snd with
      | loader => exact .of (.talk (.gain _ hle))
      | desk d =>
        simp only
        split
        · exact .of (.talk (.gain _ hle))
        · exact .refl
  · exact .refl

theorem decideSetTalkTimeout_works (snd : Sender) (line : Byte) (args : List Byte) (s : State) :
    Works s (decideSetTalkTimeout snd line args s).state := by
  unfold decideSetTalkTimeout
  split
  · next seconds =>
    split
    · exact .refl
    · exact .of (.talk (.timeout _ (Nat.le_of_lt_succ seconds.isLt)))
  · exact .refl

/-! ### Reads, maps, clock and load -/

/-- A desk's peaks lie in their ranges (R73). -/
def PeaksGood (p : PeakSet) : Prop :=
  (∀ n : Line, p.input[n] ≤ 8388608 ∧ p.ret[n] ≤ 8388608) ∧ ∀ i : Fin 5, p.group[i] ≤ 8388608

/-- One desk's peaks replaced by peaks in their ranges. -/
theorem setPeaks_works {d : Desk} {p : PeakSet} {s : State} (h : PeaksGood s.mix.peaks[d] → PeaksGood p) :
    Works s (s.withMix { s.mix with peaks := s.mix.peaks.set d p }) := by
  refine .of (.mix (fun _ _ => id) fun ⟨hr, hg, hc, hp⟩ => ⟨hr, hg, hc, fun e => ?_⟩)
  have he : (s.mix.peaks.set d p)[e] = if e = d then p else s.mix.peaks[e] := set_get _ d e p
  simp only [he]
  split
  · next hed => subst hed; exact h (hp e)
  · exact hp e

theorem decideReadLine_works (snd : Sender) (line : Byte) (args : List Byte) (s : State) :
    Works s (decideReadLine snd line args s).state := by
  unfold decideReadLine
  split <;> exact .refl

theorem decideReadStudio_works (snd : Sender) (line : Byte) (args : List Byte) (s : State) :
    Works s (decideReadStudio snd line args s).state := by
  unfold decideReadStudio
  split
  · exact .refl
  · split
    · exact .refl
    · refine setPeaks_works fun ⟨hl, hg⟩ => ⟨hl, fun i => ?_⟩
      rw [ofFn_get]
      split
      · exact Nat.zero_le _
      · exact hg i

theorem decideReadMeters_works (snd : Sender) (line : Byte) (args : List Byte) (s : State) :
    Works s (decideReadMeters snd line args s).state := by
  unfold decideReadMeters
  split
  · exact .refl
  · split
    · exact .refl
    · refine setPeaks_works fun ⟨hl, hg⟩ => ⟨fun k => ?_, hg⟩
      rw [set_get, set_get]
      split
      · exact ⟨Nat.zero_le _, Nat.zero_le _⟩
      · exact hl k

theorem decideMapInput_works (snd : Sender) (line : Byte) (args : List Byte) (s : State) :
    Works s (decideMapInput snd line args s).state := by
  unfold decideMapInput
  split
  · split
    · simp only
      split
      · exact .refl
      · split
        · exact .refl
        · split
          · exact .refl
          · exact .of (.maps _)
    · exact .refl
  · exact .refl

theorem decideMapOutput_works (snd : Sender) (line : Byte) (args : List Byte) (s : State) :
    Works s (decideMapOutput snd line args s).state := by
  unfold decideMapOutput
  split
  · split
    · exact .of (.maps _)
    · exact .refl
  · exact .refl

theorem decideSetClock_works (snd : Sender) (line : Byte) (args : List Byte) (s : State) :
    Works s (decideSetClock snd line args s).state := by
  unfold decideSetClock
  split
  · exact .refl
  · exact .of (.lanes id)

/-! ### Every decision -/

/-- What an owner's decision does is work of its block: of every command but those the controller answers itself and
LOAD-CONFIG, from a desk or from the Loader. -/
theorem decideOp_works {op : Op} (h : ownerOf op ≠ .controller) (hl : op ≠ .loadConfig) (snd : Sender) (line : Byte)
    (args : List Byte) (s : State) : Works s (decideOp op snd line args s).state := by
  cases op with
  | nop | linkStatus | setMask => exact absurd rfl h
  | loadConfig => exact absurd rfl hl
  | answer => exact decideAnswer_works snd line args s
  | hold => exact decideHold_works snd line args s
  | queue => exact decideQueue_works snd line args s
  | promote => exact decidePromote_works snd line args s
  | give => exact decideGive_works snd line args s
  | take => exact decideTake_works snd line args s
  | takeNext => exact decideTakeNext_works snd line args s
  | privateTalk => exact decidePrivate_works snd line args s
  | park => exact decidePark_works snd line args s
  | drop => exact decideDrop_works snd line args s
  | talkOn => exact decideTalkOn_works snd line args s
  | talkOff => exact decideTalkOff_works snd line args s
  | setLevel => exact decideSetLevel_works snd line args s
  | setReturn => exact decideSetReturn_works snd line args s
  | setLabel => exact decideSetLabel_works snd line args s
  | setHome => exact decideSetHome_works snd line args s
  | forcePath => exact decideForcePath_works snd line args s
  | setConf => exact decideSetConf_works snd line args s
  | setCtxGain => exact decideSetCtxGain_works snd line args s
  | setDuck => exact decideSetDuck_works snd line args s
  | setTalkGain => exact decideSetTalkGain_works snd line args s
  | readLine => exact decideReadLine_works snd line args s
  | readStudio => exact decideReadStudio_works snd line args s
  | readMeters => exact decideReadMeters_works snd line args s
  | mapInput => exact decideMapInput_works snd line args s
  | mapOutput => exact decideMapOutput_works snd line args s
  | setPathTiming => exact decideSetPathTiming_works snd line args s
  | setStemTiming => exact decideSetStemTiming_works snd line args s
  | setClock => exact decideSetClock_works snd line args s
  | setTalkTimeout => exact decideSetTalkTimeout_works snd line args s
  -- RECALL; its constructor's name is a reserved word of Mathlib.
  | _ => exact decideRecall_works snd line args s

end Sys2Proof.Proofs.Owners
end

section
/-! PROOFS. What the blocks do on their own, at their events, frames and block ends: each step is changes of the blocks
that keep the blocks' laws, and notices handed to every controller alike. -/

namespace Sys2Proof.Proofs.Blocks

open Sys2Proof Sys2Proof.Machine Sys2Proof.Safety Sys2Proof.Claims
open Sys2Proof.Proofs.Talk Sys2Proof.Proofs.Decisions Sys2Proof.Proofs.LineMoves Sys2Proof.Proofs.Owners

/-! ### Line Table -/

theorem lineTableLink_works (d : Desk) (v : LinkState) (s : State) : Works s (lineTableLink d v s) := by
  unfold lineTableLink
  split
  · exact .of (.lines (.fallback _))
  · exact .refl

theorem partyPresent_works {n : Line} {s : State} (h : isFree (s.line n).state = true) :
    Works s (commit (setState n .waiting s.lines) s) :=
  commit_works (.stay (Change.out rfl rfl rfl) fun x => by
    rw [line_state_eq (isFree_eq_true_iff.1 h)]
    rfl)

theorem freeLine_works (n : Line) (s : State) : Works s (commit (freeLine n s.lines) s) := by
  rw [← freeLines_eq_freeLine]
  exact commit_works (.free _)

/-- A leaving line enters its destination (R65). -/
theorem enterDest_works {n : Line} {t : Dest} {s : State} (h : destOf (s.line n).state = some t) :
    Works s (commit (enterDest n t s.lines) s) := by
  have hdue (hne : ∀ x, t ≠ .queued x) (x : Studio) : entriesDue s.lines.recs[n].state n x = [] := by
    change entriesDue (s.line n).state n x = []
    generalize (s.line n).state = st at h
    cases st with
    | screen p =>
      cases p with
      | steady => rfl
      | leaving t' =>
        obtain rfl : t' = t := Option.some.inj h
        cases t' with
        | queued y => exact absurd rfl (hne y)
        | _ => rfl
    | queued y => exact absurd h (by simp [destOf])
    | _ => rfl
  have hgroup (g : Group) (hg : reservedGroup (s.line n).state = some g) :
      ([g] : List Group).Sublist (groupsOf s.lines.recs[n].state) := by
    change List.Sublist [g] (groupsOf (s.line n).state)
    rw [groupsOf, hg]
    exact List.sublist_append_right _ _
  cases t with
  | hold => exact commit_works (.stay (Change.out rfl rfl rfl) fun x => (hdue (by simp) x).symm)
  | queued x =>
    refine commit_works (.confirm (Change.out rfl rfl rfl) (fun hd => ?_) (dueIn_queued n x))
    change destLegal (s.line n).state = true at hd
    change DueIn (s.line n).state n x true
    generalize (s.line n).state = st at h hd
    cases st with
    | screen p =>
      cases p with
      | steady => exact absurd h (by simp [destOf])
      | leaving t' =>
        obtain rfl : t' = .queued x := Option.some.inj h
        exact dueIn_arriving n x
    | air y p =>
      cases p with
      | steady => exact absurd h (by simp [destOf])
      | leaving t' =>
        obtain rfl : t' = .queued x := Option.some.inj h
        exact absurd hd (by simp [destLegal])
    | priv y p =>
      cases p with
      | steady => exact absurd h (by simp [destOf])
      | leaving t' =>
        obtain rfl : t' = .queued x := Option.some.inj h
        exact absurd hd (by simp [destLegal])
    | _ => exact absurd h (by simp [destOf])
  | air x =>
    refine commit_works (.stay (Change.state rfl (.inl (hgroup (.air x) ?_)) rfl) fun y => (hdue (by simp) y).symm)
    rw [reservedGroup, h]
  | priv x =>
    refine commit_works (.stay (Change.state rfl (.inl (hgroup (.priv x) ?_)) rfl) fun y => (hdue (by simp) y).symm)
    rw [reservedGroup, h]
  | clearing => exact commit_works (.leave (Change.out rfl rfl rfl) fun _ => rfl)

/-! ### Talk Arbiter -/

theorem setView_live_works (d : Desk) (s : State) : Works s (setView d .live s) := .of (.talk (.live d))

theorem talkLinkLive_works (d : Desk) (s : State) : Works s (talkLinkLive d s) := by
  rw [talkLinkLive_eq]
  split
  · exact (setView_live_works d s).trans (releases_works _ _ _)
  · exact setView_live_works d s

theorem talkLinkLost_works (d : Desk) (s : State) : Works s (talkLinkLost d s) := by
  rw [talkLinkLost_eq, releases_eq_clearHolds]
  refine (Works.of (.talk (.lost d (v := (clearHolds (fun n => holder s n == some d) s).talk.holds) fun n => ?_))).tail
    (.offers _)
  simp only [clearHolds]
  rw [ofFn_get]
  split
  · exact .inl rfl
  · next hn => exact .inr ⟨rfl, fun e => hn (by rw [holder, e]; simp)⟩

theorem recheckLine_works (n : Line) (s : State) : Works s (recheckLine n s) := by
  unfold recheckLine
  split
  · exact .refl
  · split
    · exact .refl
    · exact releaseHold_works _ _ s

theorem timedOut_isLocal : IsLocal timedOut := fun s n k cause hk => by
  unfold timedOut
  rw [releaseHold_holds_ne hk]
  rfl

theorem talkBlockEnd_eq (s : State) : talkBlockEnd s = releases (timedOut s) .timeout s :=
  releaseWhere_allLines timedOut_isLocal .timeout s

theorem talkBlockEnd_works (s : State) : Works s (talkBlockEnd s) := by
  rw [talkBlockEnd_eq]
  exact releases_works _ _ s

/-! ### Context Store -/

theorem feedRunLaw_moveFeed {f : FeedRec} (good : Bool) (h : FeedRunLaw f) : FeedRunLaw (moveFeed good f) := by
  obtain ⟨hg, hb, -⟩ := h
  unfold moveFeed
  split
  · exact ⟨riseTo_le hg, Nat.zero_le _, .inr rfl⟩
  · exact ⟨Nat.zero_le _, riseTo_le hb, .inl rfl⟩

theorem studioGood_judgeStudio {s : State} {x : Studio} {c : StudioCtx} (h : StudioGood c) :
    StudioGood (judgeStudio s x c) :=
  ⟨h.1, feedRunLaw_moveFeed _ h.2.1, feedRunLaw_moveFeed _ h.2.2⟩

theorem moveBase_works (x : Studio) (level : BaseLevel) (s : State) : Works s (moveBase x level s) := by
  rcases moveBase_cases x level s with ⟨-, h⟩ | ⟨-, h⟩
  · rw [h]
  · have hmove : Works s (setStudio x { s.ctx.studios.get x with base := level } s) :=
      .of (.ctx fun hg => ctxGood_setStudio hg id)
    rw [h]
    exact hmove.tail (.offers _)

theorem feedsBlockEnd_works (s : State) : Works s (feedsBlockEnd s) := by
  refine (Works.of (.ctx fun ⟨hst, hscreen⟩ => ⟨fun x => ?_, hscreen⟩)).trans
    ((moveBase_works .a _ _).trans (moveBase_works .b _ _))
  cases x
  · exact studioGood_judgeStudio (hst .a)
  · exact studioGood_judgeStudio (hst .b)

theorem feedRunLaw_zero {f : FeedRec} : FeedRunLaw { f with goodRun := 0, badRun := 0 } :=
  ⟨Nat.zero_le _, Nat.zero_le _, .inl rfl⟩

theorem studioGood_remapStudio {old new : SlotMap} {x : Studio} {c : StudioCtx} (h : StudioGood c) :
    StudioGood (remapStudio old new x c) := by
  refine ⟨h.1, ?_, ?_⟩
  · simp only [remapStudio]
    split
    · exact feedRunLaw_zero
    · exact h.2.1
  · simp only [remapStudio]
    split
    · exact feedRunLaw_zero
    · exact h.2.2

/-! ### Path Monitor -/

theorem pathRunLaw_zeroRuns (p : PathRec) : PathRunLaw (zeroRuns p) := ⟨Nat.zero_le _, Nat.zero_le _, .inl rfl⟩

theorem pathRunLaw_restartPath (p : PathRec) : PathRunLaw (restartPath p) := pathRunLaw_zeroRuns p

theorem pathRunLaw_moveRuns {p : PathRec} (j : Judgement) (h : PathRunLaw p) : PathRunLaw (moveRuns j p) := by
  obtain ⟨hg, hb, -⟩ := h
  cases j with
  | good => exact ⟨riseTo_le hg, Nat.zero_le _, .inr rfl⟩
  | bad => exact ⟨Nat.zero_le _, riseTo_le hb, .inl rfl⟩
  | none => exact ⟨Nat.zero_le _, Nat.zero_le _, .inl rfl⟩

theorem pathGood_applyMode {p : PathLine} (h : PathGood p) : PathGood (applyMode p) := by
  unfold applyMode
  split
  · exact h
  · next m _ =>
    obtain ⟨⟨-, -, hr⟩, -⟩ := h
    refine ⟨⟨pathRunLaw_zeroRuns _, pathRunLaw_zeroRuns _, hr⟩, fun hm => ?_, fun hm => ?_⟩
    · obtain rfl : m = .primary := hm
      rfl
    · obtain rfl : m = .alternate := hm
      rfl

theorem pathGood_judgePaths {s : State} {n : Line} {p : PathLine} (h : PathGood p) : PathGood (judgePaths s n p) := by
  obtain ⟨⟨hp, ha, hr⟩, hm⟩ := h
  exact ⟨⟨pathRunLaw_moveRuns _ hp, pathRunLaw_moveRuns _ ha, hr⟩, hm⟩

/-- In AUTO the active path is free to change. -/
theorem pathGood_active {p : PathLine} (side : PathSide) (hm : p.mode = .auto) (h : PathGood p) :
    PathGood { p with active := side } :=
  ⟨h.1, by simp [hm], by simp [hm]⟩

theorem mode_of_failoverDue {p : PathLine} (h : failoverDue p = true) : p.mode = .auto := by
  simp only [failoverDue, Bool.and_eq_true, beq_iff_eq] at h
  exact h.1.1

theorem mode_of_revertDue {p : PathLine} (h : revertDue p = true) : p.mode = .auto := by
  simp only [revertDue, Bool.and_eq_true, beq_iff_eq] at h
  exact h.1.1.1.1

theorem pathGood_chooseActive {p : PathLine} (h : PathGood p) : PathGood (chooseActive p) := by
  unfold chooseActive
  split
  · next hf =>
    rw [failoverLine, if_pos hf]
    exact pathGood_active _ (mode_of_failoverDue hf) h
  · unfold revertLine
    split
    · next hr => exact pathGood_active _ (mode_of_revertDue hr) h
    · exact h

theorem pathGood_moveCounts {s : State} {n : Line} {p : PathLine} (h : PathGood p) : PathGood (moveCounts s n p) := by
  obtain ⟨⟨hp, ha, harr, hgone, hr⟩, hm⟩ := h
  unfold moveCounts
  split
  · refine ⟨⟨hp, ha, ?_, hgone, hr⟩, hm⟩
    simp only
    split
    · exact riseTo_le harr
    · exact Nat.zero_le _
  · refine ⟨⟨hp, ha, harr, ?_, hr⟩, hm⟩
    simp only
    split
    · exact Nat.zero_le _
    · exact riseTo_le hgone

theorem pathGood_pathLineEnd {s : State} {n : Line} {p : PathLine} (h : PathGood p) : PathGood (pathLineEnd s n p) :=
  pathGood_moveCounts (pathGood_chooseActive (pathGood_judgePaths (pathGood_applyMode h)))

theorem pathsBlockEnd_works (s : State) : Works s (pathsBlockEnd s) := by
  refine ((Works.of (.paths fun n hn => ?_)).tail (.offers _)).tail (.wires _)
  rw [ofFn_get, ofFn_get]
  exact pathGood_pathLineEnd hn

theorem pathGood_restartLine {toFree : Bool} {p : PathLine} (h : PathGood p) : PathGood (restartLine toFree p) := by
  obtain ⟨⟨hp, ha, -, -, hr⟩, hm⟩ := h
  exact ⟨⟨hp, ha, Nat.zero_le _, Nat.zero_le _, hr⟩, hm⟩

theorem pathGood_loseAlternate {p : PathLine} (h : PathGood p) : PathGood (loseAlternate p) := by
  refine ⟨h.1, fun _ => rfl, fun hm => ?_⟩
  simp only [loseAlternate] at hm
  split at hm
  · exact absurd hm (by simp)
  · next hn => exact absurd (.inl hm) hn

theorem pathGood_losePrimary {p : PathLine} (h : PathGood p) : PathGood (losePrimary p) := by
  obtain ⟨⟨-, -, -, -, hr⟩, -⟩ := h
  exact ⟨⟨pathRunLaw_restartPath _, pathRunLaw_restartPath _, Nat.zero_le _, Nat.zero_le _, hr⟩, fun _ => rfl,
    fun hm => nomatch hm⟩

theorem pathGood_restartPrimary {p : PathLine} (h : PathGood p) :
    PathGood { p with primary := restartPath p.primary } := by
  obtain ⟨⟨-, hr⟩, hm⟩ := h
  exact ⟨⟨pathRunLaw_restartPath _, hr⟩, hm⟩

theorem pathGood_restartAlternate {p : PathLine} (h : PathGood p) :
    PathGood { p with alternate := restartPath p.alternate } := by
  obtain ⟨⟨hp, -, hr⟩, hm⟩ := h
  exact ⟨⟨hp, pathRunLaw_restartPath _, hr⟩, hm⟩

/-- A step made or not made keeps what it keeps. -/
theorem ite_keeps {α : Type} {P : α → Prop} {c : Prop} [Decidable c] {a b : α} (ha : P a) (hb : P b) :
    P (if c then a else b) := by
  split
  · exact ha
  · exact hb

theorem pathGood_remapLine {old new : SlotMap} {n : Line} {p : PathLine} (h : PathGood p) :
    PathGood (remapLine old new n p) := by
  have h1 := ite_keeps (c := roleChanges old new (primaryRole n) = true) (pathGood_restartPrimary h) h
  have h2 := ite_keeps (c := roleChanges old new (alternateRole n) = true) (pathGood_restartAlternate h1) h1
  have h3 := ite_keeps (c := (roleChanges old new (alternateRole n) && (new.input[alternateRole n]).isNone) = true)
    (pathGood_loseAlternate h2) h2
  exact ite_keeps (pathGood_losePrimary h3) h3

theorem pathRestart_works (n : Line) (toFree : Bool) (s : State) : Works s (setPath n (restartLine toFree s.paths[n]) s) :=
  setPath_works pathGood_restartLine

/-! ### Mix Engine -/

theorem inSampleRange_saturate (v : Int) : InSampleRange (saturate v) := by
  unfold saturate
  split
  · constructor <;> decide
  · split
    · constructor <;> decide
    · constructor <;> omega

theorem natAbs_le_of_inSampleRange {v : Int} (h : InSampleRange v) : v.natAbs ≤ 8388608 := by
  obtain ⟨hlo, hhi⟩ := h
  omega

theorem inSampleRange_audio (a : AudioField) : InSampleRange a.toInt := by
  have hlo := BitVec.le_toInt a
  have hhi := BitVec.toInt_lt (x := a)
  constructor <;> omega

theorem inSampleRange_roleSample (s : State) (role : Fin 44) : InSampleRange (roleSample s role) := by
  have hzero : InSampleRange 0 := by constructor <;> decide
  unfold roleSample
  split
  · exact hzero
  · exact ite_keeps (inSampleRange_audio _) hzero

theorem inSampleRange_lineSample (s : State) (n : Line) : InSampleRange (lineSample s n) :=
  ite_keeps (inSampleRange_roleSample _ _) (by constructor <;> decide)

theorem rampStep_le {target current limit : Nat} (ht : target ≤ limit) (hc : current ≤ limit) :
    rampStep target current ≤ limit := by
  unfold rampStep
  split <;> omega

theorem sendTarget_le {r : LineRec} (h : r.level ≤ 32767) : sendTarget r ≤ 32767 := by
  unfold sendTarget
  split
  · exact h
  · exact h
  · exact h
  · exact Nat.zero_le _

theorem gainsGood_rampBase {c : StudioCtx} {g : BaseGains} (hc : StudioGood c) (hg : GainsGood g) :
    GainsGood (rampBase c g) := by
  obtain ⟨⟨-, hstem, hhold, hpriv, -⟩, -⟩ := hc
  exact ⟨rampStep_le hstem hg.1, rampStep_le hhold hg.2.1, rampStep_le hpriv hg.2.2⟩

/-- One ramp step keeps every current gain a gain code (R82). -/
theorem currentGood_rampAll {s : State} (hr : RecordLaw s.lines) (hc : CtxGood s.ctx) (hm : CurrentGood s.mix) :
    CurrentGood (rampAll s) := by
  obtain ⟨hlines, hgains, htalk⟩ := hm
  refine ⟨fun n => ?_, fun x => ?_, rampStep_le hc.2.2 htalk⟩
  · obtain ⟨hlevel, hret, -⟩ := hr n
    simp only [rampAll]
    rw [ofFn_get, ofFn_get]
    exact ⟨rampStep_le (sendTarget_le hlevel) (hlines n).1, rampStep_le hret (hlines n).2⟩
  · cases x
    · exact gainsGood_rampBase (hc.1 .a) (hgains .a)
    · exact gainsGood_rampBase (hc.1 .b) (hgains .b)

/-- A peak set raised by a computation whose results lie in the range of a sample (R97). -/
theorem peaksGood_raisePeaks {s : State} {m : MixEngine} {p : PeakSet} (h : PeaksGood p) :
    PeaksGood (raisePeaks s (resultsOf s m) p) := by
  obtain ⟨hl, hg⟩ := h
  refine ⟨fun n => ?_, fun i => ?_⟩ <;> simp only [raisePeaks, resultsOf]
  · rw [ofFn_get, ofFn_get, ofFn_get]
    exact ⟨max_le (hl n).1 (natAbs_le_of_inSampleRange (inSampleRange_lineSample s n)),
      max_le (hl n).2 (natAbs_le_of_inSampleRange (inSampleRange_saturate _))⟩
  · rw [ofFn_get, ofFn_get]
    exact max_le (hg i) (natAbs_le_of_inSampleRange (inSampleRange_saturate _))

/-- One output's clip record replaced by one in its ranges (R174). -/
theorem setClip_work {o : Output} {c : ClipRec} {s : State}
    (h : (s.mix.clips[o]).count ≤ 65535 → (s.mix.clips[o]).quiet ≤ 1001 → c.count ≤ 65535 ∧ c.quiet ≤ 1001) :
    Work s (s.withMix { s.mix with clips := s.mix.clips.set o c }) := by
  refine .mix (fun _ _ => id) fun ⟨hr, hg, hc, hp⟩ => ⟨hr, hg, fun k => ?_, hp⟩
  have hk : (s.mix.clips.set o c)[k] = if k = o then c else s.mix.clips[k] := set_get _ o k c
  simp only [hk]
  split
  · exact h (hc o).1 (hc o).2
  · exact hc k

theorem countClip_works (s : State) (o : Output) : Works s (countClip s o) := by
  have hclip : Config.quietAtClip ≤ 1001 := by decide
  unfold countClip
  simp only
  split
  · exact Work.noticed (setClip_work fun hc _ => ⟨riseTo_le hc, hclip⟩) _
  · exact .of (setClip_work fun hc hq => ⟨riseTo_le hc, hq⟩)

theorem raisePending_works (s : State) (o : Output) : Works s (raisePending s o) := by
  have hend : Config.quietAtBlockEnd ≤ 1001 := by decide
  have hclip : Work s (s.withMix { s.mix with
      clips := s.mix.clips.set o ⟨(s.mix.clips[o]).count, Config.quietAtBlockEnd, false⟩ }) :=
    setClip_work fun hc _ => ⟨hc, hend⟩
  unfold raisePending
  simp only
  split
  · exact hclip.noticed _
  · exact .refl

theorem foldl_works {α : Type} {f : State → α → State} (hf : ∀ s a, Works s (f s a)) (l : List α) :
    ∀ s : State, Works s (l.foldl f s) := by
  induction l with
  | nil => exact fun _ => .refl
  | cons a l ih => exact fun s => (hf s a).trans (ih (f s a))

/-- The computation's own values: the gains ramped, the peaks raised and the results (R78). -/
theorem computed_work (s : State) :
    Work s (s.withMix { rampAll s with
      peaks := Vector.ofFn fun d => raisePeaks s (resultsOf s (rampAll s)) s.mix.peaks[d]
      results := resultsOf s (rampAll s) }) := by
  refine .mix (fun hr hc hm => ?_) fun ⟨_, _, hc, hp⟩ => ⟨fun n => ?_, fun i => ?_, hc, fun d => ?_⟩
  · obtain ⟨hlines, hgains, htalk⟩ := currentGood_rampAll hr hc hm
    exact ⟨hlines, hgains, htalk⟩
  · have hn : (resultsOf s (rampAll s)).returns[n] = returnOut s (rampAll s) n := ofFn_get _ n
    simp only [hn]
    exact inSampleRange_saturate _
  · have hi : (resultsOf s (rampAll s)).groups[i] = saturate (groupRaw s (rampAll s) (groupAt i)) := ofFn_get _ i
    simp only [hi]
    exact inSampleRange_saturate _
  · have hd : (Vector.ofFn fun d => raisePeaks s (resultsOf s (rampAll s)) s.mix.peaks[d])[d] =
        raisePeaks s (resultsOf s (rampAll s)) s.mix.peaks[d] := ofFn_get _ d
    simp only [hd]
    exact peaksGood_raisePeaks (hp d)

theorem computeFrame_works (s : State) : Works s (computeFrame s) := by
  let mixed := s.withMix { rampAll s with
      peaks := Vector.ofFn fun d => raisePeaks s (resultsOf s (rampAll s)) s.mix.peaks[d]
      results := resultsOf s (rampAll s) }
  let sent := mixed.withLanes { s.lanes with sent := outputFrame s }
  have hsent : Work mixed sent := .lanes id
  have hclips := foldl_works countClip_works (clippedOutputs s (rampAll s)) sent
  exact (((Works.of (computed_work s)).tail hsent).trans hclips).tail (.wires _)

theorem quietFall_work (s : State) :
    Work s (s.withMix { s.mix with clips := Vector.ofFn fun o => fallQuiet s.mix.clips[o] }) := by
  refine .mix (fun _ _ ⟨hl, hg, ht⟩ => ⟨hl, hg, ht⟩) ?_
  rintro ⟨hr, hg, hc, hp⟩
  refine ⟨hr, hg, fun o => ?_, hp⟩
  have ho : (Vector.ofFn fun o => fallQuiet s.mix.clips[o])[o] = fallQuiet s.mix.clips[o] := ofFn_get _ o
  simp only [ho]
  exact ⟨(hc o).1, (Nat.sub_le _ _).trans (hc o).2⟩

theorem quietBlockEnd_works (s : State) : Works s (quietBlockEnd s) :=
  (Works.of (quietFall_work s)).trans (foldl_works raisePending_works allOutputs _)

/-! ### Lane Interface and Slot Map -/

theorem takeFrame_works (lanes : Vector LaneIn 4) (s : State) : Works s (s.withLanes (takeFrame lanes s.lanes)) :=
  .of (.lanes fun ⟨hf, hr⟩ => ⟨riseTo_le hf, hr⟩)

theorem startBlock_works (s : State) : Works s (s.withLanes (startBlock s.lanes)) :=
  .of (.lanes fun ⟨_, hr⟩ => ⟨Nat.zero_le _, hr⟩)

/-- The state after a new map takes effect: the line paths and the feeds take it, and the Line Table is handed its event
(R105, R139, R153). -/
def mapTaken (new : SlotMap) (s : State) : State :=
  (((s.withMaps new).withPaths (Vector.ofFn fun n => remapLine s.maps new n s.paths[n])).withCtx { s.ctx with
    studios := ⟨remapStudio s.maps new .a s.ctx.studios.a, remapStudio s.maps new .b s.ctx.studios.b⟩ }).withWires
      { s.wires with mapChanges := s.wires.mapChanges ++ mapEvents s.maps new }

theorem execInputMapApply_eq (s : State) : execInputMapApply s = .next (mapTaken (applyInputMap s.maps) s) := rfl

theorem mapTaken_works (new : SlotMap) (s : State) : Works s (mapTaken new s) := by
  refine (((Works.of (.maps new)).tail (.paths fun n hn => ?_)).tail (.ctx ?_)).tail (.wires _)
  · rw [ofFn_get]
    exact pathGood_remapLine hn
  · rintro ⟨hst, hscreen⟩
    refine ⟨fun x => ?_, hscreen⟩
    cases x
    · exact studioGood_remapStudio (hst .a)
    · exact studioGood_remapStudio (hst .b)

theorem applyReference_works (s : State) : Works s (applyReference s) := by
  unfold applyReference
  split
  · exact .refl
  · exact Work.noticed (.lanes fun ⟨hf, _, hu, _⟩ => ⟨hf, Nat.zero_le _, hu, fun h => nomatch h⟩) _

theorem relockClock_works (s : State) : Works s (relockClock s) := by
  unfold relockClock
  split
  · next h =>
    have hlock : Work s (s.withLanes { s.lanes with clock := .referenced }) :=
      .lanes fun ⟨hf, hr, hu, _⟩ => ⟨hf, hr, hu, fun _ => h.2⟩
    exact hlock.noticed _
  · exact .refl

/-- The Lane Interface's block end changes the lanes once, by the judgements, the counts and the one test of the clock, and
raises a CLOCK notice or none (R148, R149). -/
theorem lanesBlockEnd_works (s : State) : Works s (lanesBlockEnd s) := by
  have hcounts (h : ClockLaw s.lanes) : (judgeLanes s).frames ≤ 48 ∧ (judgeLanes s).relock ≤ 250 ∧
      ∀ i : Lane, (judgeLanes s).unlocked[i] ≤ 65535 := by
    obtain ⟨hf, hr, hu, -⟩ := h
    refine ⟨hf, ?_, fun i => ?_⟩
    · simp only [judgeLanes]
      split
      · exact riseTo_le hr
      · exact Nat.zero_le _
    · simp only [judgeLanes]
      rw [ofFn_get]
      split
      · exact hu i
      · exact riseTo_le (hu i)
  cases hc : s.lanes.clock with
  | freeRun =>
    have hfree : Work s (s.withLanes (judgeLanes s)) := .lanes fun h => by
      obtain ⟨hf, hr, hu⟩ := hcounts h
      exact ⟨hf, hr, hu, fun e => absurd (hc.symm.trans e) (by simp)⟩
    simp only [lanesBlockEnd, hc]
    exact (Works.of hfree).trans (relockClock_works _)
  | referenced =>
    simp only [lanesBlockEnd, hc, loseReference]
    split
    · refine Work.noticed (.lanes fun h => ?_) _
      obtain ⟨hf, hr, hu⟩ := hcounts h
      exact ⟨hf, hr, hu, fun e => nomatch e⟩
    · next hkeep =>
      refine .of (.lanes fun h => ?_)
      obtain ⟨hf, hr, hu⟩ := hcounts h
      refine ⟨hf, hr, hu, fun _ => ?_⟩
      have hj : (judgeLanes s).judged[s.lanes.refLane] = laneLocked s s.lanes.refLane := ofFn_get _ _
      have hlocked : laneLocked s s.lanes.refLane = true := by
        rw [← hj]
        exact Bool.eq_true_of_not_eq_false fun e => hkeep ⟨hc, e⟩
      have hfull : s.lanes.relock = 250 := h.2.2.2 hc
      simp only [judgeLanes, hlocked, if_true, hfull]
      rfl

end Sys2Proof.Proofs.Blocks
end

section
/-! PROOFS. The laws of a Desk Link Controller, and how each of its steps keeps them: queues and counts in their ranges
(R159 to R172), and one waiting reply place for each command handed on and not yet decided (R163). -/

namespace Sys2Proof.Proofs.DeskLaws

open Sys2Proof Sys2Proof.Machine Sys2Proof.Safety Sys2Proof.Claims
open Sys2Proof.Proofs.Talk Sys2Proof.Proofs.Decisions Sys2Proof.Proofs.Links Sys2Proof.Proofs.Desk

/-- Every law of one controller. -/
def DeskLaw (c : Controller) : Prop := ControllerLaw c ∧ ReplyLaw c ∧ HandedLaw c

/-- Every controller keeps its laws. -/
def DesksLaw (s : State) : Prop := ∀ d : Desk, DeskLaw (s.desk d)

theorem desksLaw_setDesk {d : Desk} {c : Controller} {s : State} (h : DesksLaw s) (hc : DeskLaw (s.desk d) → DeskLaw c) :
    DesksLaw (setDesk d c s) := by
  intro e
  rw [setDesk_desk]
  split
  · exact hc (h d)
  · exact h e

/-- What is offered to a controller and what it sends are under no law. -/
theorem deskLaw_offered {c : Controller} (ns : List Notice) (h : DeskLaw c) : DeskLaw { c with offered := ns } := h

theorem desksLaw_offerWhere {p : Desk → Controller → Bool} {n : Notice} {s : State} (h : DesksLaw s) :
    DesksLaw (offerWhere p n s) := by
  intro e
  rw [offerWhere_desk]
  split
  · exact deskLaw_offered _ (h e)
  · exact h e

/-! ### Commands handed on and waiting places -/

/-- A thing handed on is a command. -/
def isCommand : Handed → Bool
  | .command _ _ _ => true
  | _ => false

/-- The commands among the things handed to an owner. -/
def commandCount (o : Owner) (l : List (Owner × Handed)) : Nat :=
  (l.filter fun p => p.1 == o && isCommand p.2).length

/-- The places of a reply queue that wait for an owner. -/
def placeCount (o : Owner) (l : List Place) : Nat := (l.filter fun p => p == .waiting o).length

theorem commandsTo_eq (o : Owner) (c : Controller) : commandsTo o c = commandCount o c.handed :=
  congrArg List.length (List.filter_congr fun p _ => by
    obtain ⟨o', h⟩ := p
    cases h <;> rfl)

theorem mem_allOwners (o : Owner) : o ∈ allOwners := by cases o <;> decide

theorem replyLaw_iff (c : Controller) : ReplyLaw c ↔ ∀ o, commandCount o c.handed = placeCount o c.replies := by
  simp only [ReplyLaw, commandsTo_eq]
  exact ⟨fun h o => h o (mem_allOwners o), fun h o _ => h o⟩

theorem commandCount_append (o : Owner) (l m : List (Owner × Handed)) :
    commandCount o (l ++ m) = commandCount o l + commandCount o m := by
  rw [commandCount, List.filter_append, List.length_append]
  rfl

theorem placeCount_append (o : Owner) (l m : List Place) :
    placeCount o (l ++ m) = placeCount o l + placeCount o m := by
  rw [placeCount, List.filter_append, List.length_append]
  rfl

/-- A filled place waits for no owner. -/
theorem placeCount_ready (o : Owner) (r : Reply) (l : List Place) : placeCount o (.ready r :: l) = placeCount o l := by
  rw [placeCount, List.filter_cons_of_neg (by simp)]
  rfl

theorem placeCount_waiting (o o' : Owner) (l : List Place) :
    placeCount o (.waiting o' :: l) = placeCount o l + if o' = o then 1 else 0 := by
  by_cases h : o' = o
  · simp [placeCount, h]
  · simp [placeCount, h]

/-- The reply takes one waiting place of its owner, when there is one (R163). -/
theorem placeCount_fillPlace (o o' : Owner) (r : Reply) :
    ∀ l : List Place, placeCount o (fillPlace o' r l) = placeCount o l - if o' = o then 1 else 0
  | [] => by simp [fillPlace, placeCount]
  | .ready r' :: l => by
    rw [fillPlace, placeCount_ready, placeCount_ready, placeCount_fillPlace o o' r l]
    exact fun _ h => nomatch h
  | .waiting p :: l => by
    rw [fillPlace]
    split
    · next h => rw [placeCount_ready, placeCount_waiting, h, Nat.add_sub_cancel]
    · next h =>
      rw [placeCount_waiting, placeCount_waiting, placeCount_fillPlace o o' r l]
      by_cases hp : p = o
      · subst hp
        simp [Ne.symm h]
      · simp [hp]

theorem firstFor_mem {o : Owner} {h : Handed} {l : List (Owner × Handed)} (hf : firstFor o l = some h) : (o, h) ∈ l := by
  rw [firstFor, Option.map_eq_some_iff] at hf
  obtain ⟨p, hp, rfl⟩ := hf
  have ho : p.1 = o := by simpa using List.find?_some hp
  rw [← ho]
  exact List.mem_of_find?_eq_some hp

/-- Taking off what an owner was handed first takes one off its count, if that is a command (R122). -/
theorem commandCount_dropFirstFor {o o' : Owner} {h : Handed} {l : List (Owner × Handed)}
    (hf : firstFor o' l = some h) :
    commandCount o (dropFirstFor o' l) = commandCount o l - if o' = o ∧ isCommand h = true then 1 else 0 := by
  rw [dropFirstFor_eq_erase hf]
  have hp : l.Perm ((o', h) :: l.erase (o', h)) := List.perm_cons_erase (firstFor_mem hf)
  have hlen := (hp.filter fun p => p.1 == o && isCommand p.2).length_eq
  by_cases hc : o' = o ∧ isCommand h = true
  · rw [List.filter_cons_of_pos (by simp [hc.1, hc.2]), List.length_cons] at hlen
    rw [if_pos hc, commandCount, commandCount, hlen, Nat.add_sub_cancel]
  · rw [List.filter_cons_of_neg (by simpa using hc)] at hlen
    rw [if_neg hc, commandCount, commandCount, hlen, Nat.sub_zero]

/-- A link event taken off leaves the commands. -/
theorem commandCount_erase {o o' : Owner} {h : Handed} {l : List (Owner × Handed)} (hh : isCommand h = false) :
    commandCount o (l.erase (o', h)) = commandCount o l := by
  by_cases hm : (o', h) ∈ l
  · have hp : l.Perm ((o', h) :: l.erase (o', h)) := List.perm_cons_erase hm
    have hlen := (hp.filter fun p => p.1 == o && isCommand p.2).length_eq
    rw [List.filter_cons_of_neg (by simp [hh])] at hlen
    exact hlen.symm
  · rw [List.erase_of_not_mem hm]

theorem handedLaw_sublist {l m : List (Owner × Handed)} (h : l.Sublist m) (hm : m.all handedRight = true) :
    l.all handedRight = true := by
  rw [List.all_eq_true] at *
  exact fun p hp => hm p (h.subset hp)

/-- Link events handed on leave the commands and their places (R167). -/
theorem replyLaw_handLink {c c' : Controller} {o o' : Owner} {h h' : Handed} (hh : isCommand h = false)
    (hh' : isCommand h' = false) (hc : ReplyLaw c) (hr : c'.replies = c.replies)
    (hhand : c'.handed = c.handed ++ [(o, h), (o', h')]) : ReplyLaw c' := by
  rw [replyLaw_iff] at *
  intro p
  rw [hr, hhand, commandCount_append, hc p]
  simp [commandCount, hh, hh']

/-! ### Link, assembly and counts -/

theorem desksLaw_goLive {d : Desk} {s : State} (h : DesksLaw s) :
    DesksLaw (goLive d s) := by
  refine desksLaw_offerWhere (desksLaw_setDesk h ?_)
  rintro ⟨⟨hrep, hnot, hover, hbad, hgap, hlive, hmask, hasm, hempty⟩, hreply, hhand⟩
  obtain ⟨q, k, he, hq, hk, -⟩ := enterNotice_cases s.lanes.block (helloNotice s)
    { handLink .live (s.desk d) with link := .live, offered := [] }
  rw [he]
  refine ⟨⟨hrep, hq hnot, hk hover, hbad, hgap, hlive, hmask, hasm, fun e => nomatch e⟩, ?_, ?_⟩
  · exact replyLaw_handLink rfl rfl hreply rfl rfl
  · exact (List.all_append).trans (by rw [hhand]; rfl)

theorem desksLaw_backToHunt {d : Desk} {s : State} (h : DesksLaw s) : DesksLaw (backToHunt d s) :=
  desksLaw_setDesk h fun ⟨⟨hrep, hnot, hover, hbad, _, hlive, hmask, _, hempty⟩, hr⟩ =>
    ⟨⟨hrep, hnot, hover, hbad, Nat.zero_le _, hlive, hmask, rfl, hempty⟩, hr⟩

theorem desksLaw_markAlive {d : Desk} {s : State} (h : DesksLaw s) : DesksLaw (markAlive d s) := by
  have hzero : DesksLaw (setDesk d { s.desk d with liveness := 0 } s) :=
    desksLaw_setDesk h fun ⟨⟨hrep, hnot, hover, hbad, hgap, _, hr'⟩, hr⟩ =>
      ⟨⟨hrep, hnot, hover, hbad, hgap, Nat.zero_le _, hr'⟩, hr⟩
  unfold markAlive
  simp only
  split
  · exact desksLaw_goLive hzero
  · exact hzero

theorem desksLaw_goLost {d : Desk} {s : State} (h : DesksLaw s) : DesksLaw (goLost d s) := by
  refine desksLaw_offerWhere (desksLaw_setDesk h ?_)
  rintro ⟨⟨hrep, -, -, hbad, hgap, hlive, hmask, hasm, -⟩, hreply, hhand⟩
  refine ⟨⟨hrep, Nat.zero_le _, Nat.zero_le _, hbad, hgap, hlive, hmask, hasm, fun _ => ⟨rfl, rfl⟩⟩, ?_, ?_⟩
  · exact replyLaw_handLink rfl rfl hreply rfl rfl
  · exact (List.all_append).trans (by rw [hhand]; rfl)

theorem desksLaw_loseLink {d : Desk} {s : State} (h : DesksLaw s) : DesksLaw (loseLink d s) := by
  unfold loseLink
  split
  · exact desksLaw_goLost h
  · exact h

theorem desksLaw_discardBad {d : Desk} {s : State} (h : DesksLaw s) : DesksLaw (discardBad d s) :=
  desksLaw_setDesk h fun ⟨⟨hrep, hnot, hover, hbad, _, hlive, hmask, _, hempty⟩, hr⟩ =>
    ⟨⟨hrep, hnot, hover, riseTo_le hbad, Nat.zero_le _, hlive, hmask, rfl, hempty⟩, hr⟩

theorem desksLaw_loseMessage {d : Desk} {s : State} (h : DesksLaw s) : DesksLaw (loseMessage d s) := by
  unfold loseMessage
  split
  · exact desksLaw_discardBad h
  · exact h

theorem desksLaw_raiseCounts {d : Desk} {s : State} (h : DesksLaw s) :
    DesksLaw (setDesk d (raiseCounts (s.desk d)) s) := by
  refine desksLaw_setDesk h ?_
  rintro ⟨⟨hrep, hnot, hover, hbad, hgap, hlive, hr'⟩, hr⟩
  refine ⟨⟨hrep, hnot, hover, hbad, ?_, ?_, hr'⟩, hr⟩
  · simp only [raiseCounts]
    split
    · exact riseTo_le hgap
    · exact hgap
  · simp only [raiseCounts]
    split
    · exact riseTo_le hlive
    · exact hlive

theorem desksLaw_linkBlockEnd {d : Desk} {s : State} (h : DesksLaw s) : DesksLaw (linkBlockEnd d s) :=
  desksLaw_loseLink (desksLaw_loseMessage (desksLaw_raiseCounts h))

/-- A byte taken leaves the assembler what it can hold (R159). -/
theorem assemblerLegal_feedByte {a : Assembler} (b : Byte) (h : assemblerLegal a = true) :
    assemblerLegal (feedByte a b).1 = true := by
  match a with
  | .hunt =>
    simp only [feedByte]
    split
    · rfl
    · split <;> rfl
  | .compact [] => rfl
  | .compact (b2 :: _) => rfl
  | .full [] =>
    simp only [feedByte]
    split
    · next hb => simp [assemblerLegal, hb]
    · rfl
  | .full (n :: got) =>
    simp only [assemblerLegal, Bool.and_eq_true, decide_eq_true_eq] at h
    simp only [feedByte]
    split
    · next hl =>
      simp only [List.length_cons, List.length_append, List.length_nil] at hl
      simp only [assemblerLegal, Bool.and_eq_true, decide_eq_true_eq, List.length_append, List.length_cons,
        List.length_nil]
      omega
    · rfl

/-! ### Replies, notices and commands -/

theorem desksLaw_discardCommand {d : Desk} {s : State} (h : DesksLaw s) : DesksLaw (discardCommand d s) :=
  desksLaw_setDesk h id

theorem desksLaw_finishSending {d : Desk} {s : State} (h : DesksLaw s) : DesksLaw (finishSending d s) :=
  desksLaw_setDesk h id

theorem replies_lt_of_not_full {c : Controller} (h : repliesFull c = false) : c.replies.length < 16 :=
  Nat.lt_of_not_le (of_decide_eq_false h)

/-- A filled place added where one is free (R163). -/
theorem desksLaw_addPlace {d : Desk} {r : Reply} {s : State} (hf : repliesFull (s.desk d) = false) (h : DesksLaw s) :
    DesksLaw (addPlace d (.ready r) s) := by
  refine desksLaw_setDesk h ?_
  rintro ⟨⟨-, hr'⟩, hreply, hhand⟩
  have hlt := replies_lt_of_not_full hf
  refine ⟨⟨?_, hr'⟩, ?_, hhand⟩
  · rw [List.length_append, List.length_singleton]
    omega
  · rw [replyLaw_iff] at *
    intro o
    rw [placeCount_append, placeCount_ready, hreply o]
    rfl

/-- A command handed on takes a place that waits for its owner (R162, R163). -/
theorem desksLaw_handOn {op : Op} {d : Desk} {line : Byte} {args : List Byte} {s : State}
    (hf : repliesFull (s.desk d) = false) (h : DesksLaw s) : DesksLaw (handOn op d line args s) := by
  refine desksLaw_setDesk h ?_
  rintro ⟨⟨-, hr'⟩, hreply, hhand⟩
  have hlt := replies_lt_of_not_full hf
  refine ⟨⟨?_, hr'⟩, ?_, ?_⟩
  · rw [List.length_append, List.length_singleton]
    omega
  · rw [replyLaw_iff] at *
    intro o
    rw [placeCount_append, commandCount_append, hreply o, placeCount_waiting]
    by_cases ho : ownerOf op = o
    · simp [commandCount, placeCount, isCommand, ho]
    · simp [commandCount, placeCount, isCommand, ho]
  · refine List.all_append.trans ?_
    rw [hhand]
    simp [handedRight]

/-- SET-MASK keeps the mask within its 11 bits (R171). -/
theorem desksLaw_setMask {d : Desk} {hi lo : Byte} {s : State} (hv : wordOf hi lo < 2048) (h : DesksLaw s) :
    DesksLaw (setDesk d { s.desk d with mask := BitVec.ofNat 16 (wordOf hi lo) } s) := by
  refine desksLaw_setDesk h ?_
  rintro ⟨⟨hrep, hnot, hover, hbad, hgap, hlive, -, hr'⟩, hr⟩
  refine ⟨⟨hrep, hnot, hover, hbad, hgap, hlive, ?_, hr'⟩, hr⟩
  rw [BitVec.toNat_ofNat, Nat.mod_eq_of_lt (by omega)]
  omega

/-- A command the controller answers itself leaves its reply places and its laws (R162). -/
theorem selfDecision_cases {op : Op} (ho : ownerOf op = .controller) (d : Desk) (line : Byte) (args : List Byte)
    (s : State) :
    (decideOp op (.desk d) line args s).state = s ∨
    ∃ hi lo, wordOf hi lo < 2048 ∧ (decideOp op (.desk d) line args s).state =
      setDesk d { s.desk d with mask := BitVec.ofNat 16 (wordOf hi lo) } s := by
  cases op with
  | nop => exact .inl rfl
  | linkStatus => exact .inl rfl
  | setMask =>
    simp only [decideOp, decideSetMask]
    split
    · exact .inl rfl
    · next d' hi lo e =>
      obtain rfl : d = d' := by injection e
      split
      · next hv => exact .inr ⟨hi, lo, hv, rfl⟩
      · exact .inl rfl
    · exact .inl rfl
  | _ => exact absurd ho (by simp [ownerOf])

theorem desksLaw_checkCommand {op : Op} {d : Desk} {line : Byte} {args : List Byte} {s : State}
    (hf : repliesFull (s.desk d) = false) (h : DesksLaw s) : DesksLaw (checkCommand op d line args s) := by
  unfold checkCommand
  split
  · exact desksLaw_addPlace hf h
  · split
    · next ho =>
      simp only [answerSelf]
      rcases selfDecision_cases ho d line args s with e | ⟨hi, lo, hv, e⟩
      · rw [e]
        exact desksLaw_addPlace hf h
      · rw [e]
        exact desksLaw_addPlace (by rw [setDesk_desk_self]; exact hf) (desksLaw_setMask hv h)
    · exact desksLaw_handOn hf h

/-- A good message at its controller keeps the controllers' laws (R162, R163, R166). -/
theorem desksLaw_messageArrives {d : Desk} {code line : Byte} {args : List Byte} {s : State} (h : DesksLaw s) :
    DesksLaw (messageArrives d code line args s) := by
  have ht : DesksLaw (markAlive d (backToHunt d s)) := desksLaw_markAlive (desksLaw_backToHunt h)
  unfold messageArrives
  simp only
  split
  · exact desksLaw_discardCommand ht
  · next hf =>
    have hf' := Bool.eq_false_of_not_eq_true hf
    split
    · exact desksLaw_addPlace hf' ht
    · exact desksLaw_checkCommand hf' ht

theorem desksOnly_checkCommand (op : Op) (d : Desk) (line : Byte) (args : List Byte) (s : State) :
    DesksOnly s (checkCommand op d line args s) := by
  unfold checkCommand
  split
  · exact desksOnly_setDesk ..
  · split
    · next ho =>
      simp only [answerSelf]
      rcases selfDecision_cases ho d line args s with e | ⟨hi, lo, hv, e⟩
      · rw [e]
        exact desksOnly_setDesk ..
      · rw [e]
        exact (desksOnly_setDesk ..).trans (desksOnly_setDesk ..)
    · exact desksOnly_setDesk ..

theorem desksOnly_messageArrives (d : Desk) (code line : Byte) (args : List Byte) (s : State) :
    DesksOnly s (messageArrives d code line args s) := by
  have ht : DesksOnly s (markAlive d (backToHunt d s)) := (desksOnly_backToHunt d s).trans (desksOnly_markAlive d _)
  refine ht.trans ?_
  unfold messageArrives
  simp only
  split
  · exact desksOnly_setDesk ..
  · split
    · exact desksOnly_setDesk ..
    · exact desksOnly_checkCommand ..

theorem desksLaw_startReply {d : Desk} {s : State} (h : DesksLaw s) : DesksLaw (startReply d s) := by
  unfold startReply
  simp only
  split
  · next r rest _ hrep =>
    refine desksLaw_setDesk h ?_
    rintro ⟨⟨hlen, hr'⟩, hreply, hhand⟩
    rw [hrep, List.length_cons] at hlen
    refine ⟨⟨Nat.le_of_succ_le hlen, hr'⟩, ?_, hhand⟩
    rw [replyLaw_iff] at *
    intro o
    rw [hreply o, hrep, placeCount_ready]
  · exact h

theorem desksLaw_startNotice {d : Desk} {s : State} (h : DesksLaw s) : DesksLaw (startNotice d s) := by
  unfold startNotice
  simp only
  split
  · next n rest _ _ hnot =>
    refine desksLaw_setDesk h ?_
    rintro ⟨⟨hrep, hlen, hover, hbad, hgap, hlive, hmask, hasm, hempty⟩, hr⟩
    rw [hnot, List.length_cons] at hlen
    refine ⟨⟨hrep, Nat.le_of_succ_le hlen, hover, hbad, hgap, hlive, hmask, hasm, fun hl => ?_⟩, hr⟩
    exact absurd (hnot.symm.trans (hempty hl).1) (by simp)
  · exact h

theorem desksLaw_takeOffer {d : Desk} {s : State} (h : DesksLaw s) : DesksLaw (takeOffer d s) := by
  unfold takeOffer
  split
  · exact h
  · next n rest _ =>
    obtain ⟨q, k, he, hq, hk, hlost⟩ := enterNotice_cases s.lanes.block n (s.desk d)
    rw [he]
    refine desksLaw_setDesk h ?_
    rintro ⟨⟨hrep, hnot, hover, hbad, hgap, hlive, hmask, hasm, hempty⟩, hr⟩
    refine ⟨⟨hrep, hq hnot, hk hover, hbad, hgap, hlive, hmask, hasm, fun hl => ?_⟩, hr⟩
    obtain ⟨hq', hk'⟩ := hlost hl
    obtain ⟨hn, ho⟩ := hempty hl
    exact ⟨hq'.trans hn, hk'.trans ho⟩

/-- A link event taken off the list of its controller (R122). -/
theorem desksLaw_takeLinkEvent {o : Owner} {e : Handed} {d : Desk} {s : State} (he : isCommand e = false)
    (h : DesksLaw s) : DesksLaw (takeLinkEvent o e d s) := by
  refine desksLaw_setDesk h ?_
  rintro ⟨hc, hreply, hhand⟩
  refine ⟨hc, ?_, handedLaw_sublist (List.erase_sublist) hhand⟩
  rw [replyLaw_iff] at *
  intro p
  rw [commandCount_erase he, hreply p]

/-- The first command handed to an owner taken off and its reply put into its place (R162, R163). -/
theorem desksLaw_answered {op : Op} {d : Desk} {line : Byte} {args : List Byte} {r : Reply} {s : State}
    (hf : firstFor (ownerOf op) (s.desk d).handed = some (.command op line args)) (h : DesksLaw s) :
    DesksLaw (fillReply (ownerOf op) d r (takeHanded (ownerOf op) d s)) := by
  rw [fillReply, takeHanded, setDesk_desk_self, setDesk_setDesk]
  refine desksLaw_setDesk h ?_
  rintro ⟨⟨hrep, hr'⟩, hreply, hhand⟩
  refine ⟨⟨?_, hr'⟩, ?_, handedLaw_sublist (List.eraseP_sublist) hhand⟩
  · rw [fillPlace_length]
    exact hrep
  · rw [replyLaw_iff] at *
    intro o
    rw [commandCount_dropFirstFor hf, placeCount_fillPlace, hreply o]
    simp [isCommand]

/-- Every command a controller has handed to an owner is one that owner owns. -/
theorem owner_of_firstFor {o : Owner} {op : Op} {d : Desk} {line : Byte} {args : List Byte} {s : State}
    (hf : firstFor o (s.desk d).handed = some (.command op line args)) (h : DesksLaw s) : o = ownerOf op := by
  have hall := List.all_eq_true.1 (h d).2.2 _ (firstFor_mem hf)
  simpa [handedRight] using hall

end Sys2Proof.Proofs.DeskLaws
end

section
/-! PROOFS. Every step of the part as moves that keep the laws: the changes of one block, the steps of the controllers, the
Loader's own steps and RESET. Each law is then kept by the moves, one case each. -/

namespace Sys2Proof.Proofs.Steps

open Sys2Proof Sys2Proof.Machine Sys2Proof.Safety Sys2Proof.Claims
open Sys2Proof.Proofs.Talk Sys2Proof.Proofs.Decisions Sys2Proof.Proofs.Links Sys2Proof.Proofs.Desk
open Sys2Proof.Proofs.LineMoves Sys2Proof.Proofs.Owners Sys2Proof.Proofs.Blocks Sys2Proof.Proofs.DeskLaws

/-- The state after RESET, with the straps sampled as given (R177). -/
def resetWith (straps : Desk → Bool) (s : State) : State :=
  (State.reset.withDesks (Vector.ofFn fun d => Controller.reset (straps d))).withPending s.pending

/-- What one command can do to the state, part by part. -/
inductive Move (s : State) : State → Prop
  | work {t : State} (h : Work s t) : Move s t
  | desks {t : State} (h : DesksOnly s t) (hl : DesksLaw s → DesksLaw t) : Move s t
  | loader {v : Loader} (h : loaderLegal s.loader = true → loaderLegal v = true) : Move s (s.withLoader v)
  | reset (straps : Desk → Bool) : Move s (resetWith straps s)

/-- Moves one after another. -/
abbrev Moves : State → State → Prop := Relation.ReflTransGen Move

theorem Moves.of {s t : State} (h : Move s t) : Moves s t := Relation.ReflTransGen.single h

theorem Moves.works {s t : State} (h : Works s t) : Moves s t := by
  induction h with
  | refl => exact .refl
  | tail _ hw ih => exact ih.tail (.work hw)

/-- A step made or not made. -/
theorem works_of_eq_or {s t u : State} (h : t = s ∨ t = u) (hu : Works s u) : Works s t := by
  rcases h with rfl | rfl
  · exact .refl
  · exact hu

/-- One controller's step that keeps the controllers' laws. -/
theorem moves_desks {s t : State} (h : DesksOnly s t) (hl : DesksLaw s → DesksLaw t) : Moves s t := Moves.of (.desks h hl)

/-! ### Decisions -/

theorem decideLoadConfig_cases (snd : Sender) (line : Byte) (args : List Byte) (s : State) :
    (decideLoadConfig snd line args s).state = s ∨
    (decideLoadConfig snd line args s).state =
      s.withLoader { s.loader with stage := .header ⟨[], s.lanes.block⟩ } := by
  unfold decideLoadConfig
  split
  · exact .inr rfl
  · exact .inl rfl

/-- A new reading keeps the stored result. -/
theorem loaderLegal_stage {l : Loader} {st : LoadStage} (hst : loaderLegal ⟨st, none⟩ = true)
    (h : loaderLegal l = true) : loaderLegal { l with stage := st } = true := by
  rw [loaderLegal, Bool.and_eq_true] at *
  exact ⟨hst.1, h.2⟩

theorem decideOp_moves {op : Op} (h : ownerOf op ≠ .controller) (snd : Sender) (line : Byte) (args : List Byte)
    (s : State) : Moves s (decideOp op snd line args s).state := by
  by_cases hl : op = .loadConfig
  · subst hl
    rcases decideLoadConfig_cases snd line args s with e | e
    · rw [decideOp, e]
    · rw [decideOp, e]
      exact Moves.of (.loader (loaderLegal_stage rfl))
  · exact Moves.works (decideOp_works h hl snd line args s)

/-- A decision leaves what the controllers have handed on (R162). -/
theorem decideOp_handed {op : Op} (h : ownerOf op ≠ .controller) (snd : Sender) (line : Byte) (args : List Byte)
    (s : State) (d : Desk) : ((decideOp op snd line args s).state.desk d).handed = (s.desk d).handed := by
  by_cases hl : op = .loadConfig
  · subst hl
    rcases decideLoadConfig_cases snd line args s with e | e <;> rw [decideOp, e]
    rfl
  · obtain ⟨ns, hns⟩ := (decideOp_works h hl snd line args s).offers
    rw [hns d]

/-- The owner decides the first command it was handed and hands its reply back. A command beside an owner that does not own
it is excluded by the controllers' law (R162, R163). -/
theorem ownerDecides_moves {o : Owner} (ho : o ≠ .controller) {op : Op} {d : Desk} {line : Byte} {args : List Byte}
    {s : State} (hf : firstFor o (s.desk d).handed = some (.command op line args)) :
    Moves s (ownerDecides op d line args s) := by
  by_cases hc : ownerOf op = .controller
  · have hd : DesksOnly s (ownerDecides op d line args s) := by
      rcases selfDecision_cases hc d line args (takeHanded (ownerOf op) d s) with e | ⟨hi, lo, -, e⟩ <;>
        simp only [ownerDecides, e] <;> rfl
    exact moves_desks hd fun h => absurd ((owner_of_firstFor hf h).trans hc) ho
  · have hstate : ownerDecides op d line args s =
        fillReply (ownerOf op) d (replyOf op line (decideOp op (.desk d) line args s))
          (takeHanded (ownerOf op) d (decideOp op (.desk d) line args s).state) := by
      simp only [ownerDecides, decideOp_takeHanded hc]
      rfl
    have hf' : firstFor o ((decideOp op (.desk d) line args s).state.desk d).handed = some (.command op line args) := by
      rw [decideOp_handed hc]
      exact hf
    rw [hstate]
    refine (decideOp_moves hc (.desk d) line args s).tail (.desks rfl fun h => ?_)
    obtain rfl := owner_of_firstFor hf' h
    exact desksLaw_answered hf' h

theorem takeLinkEvent_moves {o : Owner} {h : Handed} (d : Desk) (s : State) (hh : isCommand h = false) :
    Moves s (takeLinkEvent o h d s) := moves_desks rfl (desksLaw_takeLinkEvent hh)

/-- An owner takes the first thing it was handed (R122). -/
theorem ownerTakes_moves {o : Owner} (ho : o ≠ .controller) (d : Desk) (s : State) : Moves s (ownerTakes o d s) := by
  have htake {h : Handed} (hf : firstFor o (s.desk d).handed = some h) (hh : isCommand h = false) :
      Moves s (takeHanded o d s) := by
    rw [takeHanded, dropFirstFor_eq_erase hf]
    exact takeLinkEvent_moves d s hh
  unfold ownerTakes
  split
  · exact .refl
  · next hf => exact ownerDecides_moves ho hf
  · next hf =>
    refine (htake hf rfl).trans (Moves.works ?_)
    split
    · exact talkLinkLive_works d _
    · exact lineTableLink_works d .live _
  · next hf =>
    refine (htake hf rfl).trans (Moves.works ?_)
    split
    · exact talkLinkLost_works d _
    · exact lineTableLink_works d .lost _

theorem ownerTakesMany_moves {o : Owner} (ho : o ≠ .controller) (d : Desk) (k : Nat) :
    ∀ s : State, Moves s (ownerTakesMany o d k s) := by
  induction k with
  | zero => exact fun _ => .refl
  | succ k ih => exact fun s => (ownerTakes_moves ho d s).trans (ih _)

theorem messageArrives_moves (d : Desk) (code line : Byte) (args : List Byte) (s : State) :
    Moves s (messageArrives d code line args s) :=
  moves_desks (desksOnly_messageArrives ..) desksLaw_messageArrives

/-- A desk command at any of its moments. -/
theorem deskCommand_moves {op : Op} (ho : ownerOf op ≠ .controller) (m : Moment) (d : Desk) (line : Byte)
    (args : List Byte) (s : State) : Moves s (deskCommand op m d line args s) := by
  cases m with
  | arrives => exact messageArrives_moves ..
  | decided =>
    unfold deskCommand
    simp only
    split
    · next hf => exact ownerDecides_moves ho hf
    · exact .refl
  | whole =>
    unfold deskCommand
    simp only
    split
    · exact (messageArrives_moves ..).trans (ownerTakesMany_moves ho d _ _)
    · exact messageArrives_moves ..

/-! ### Controllers -/

theorem desksOnly_offerWhere (p : Desk → Controller → Bool) (n : Notice) (s : State) :
    DesksOnly s (offerWhere p n s) := rfl

theorem desksOnly_goLost (d : Desk) (s : State) : DesksOnly s (goLost d s) := rfl

theorem desksOnly_loseLink (d : Desk) (s : State) : DesksOnly s (loseLink d s) := by
  unfold loseLink
  split
  · exact desksOnly_goLost d s
  · exact .refl s

theorem desksOnly_loseMessage (d : Desk) (s : State) : DesksOnly s (loseMessage d s) := by
  unfold loseMessage
  split
  · exact desksOnly_setDesk ..
  · exact .refl s

theorem desksOnly_linkBlockEnd (d : Desk) (s : State) : DesksOnly s (linkBlockEnd d s) :=
  ((desksOnly_setDesk ..).trans (desksOnly_loseMessage ..)).trans (desksOnly_loseLink ..)

theorem desksOnly_startReply (d : Desk) (s : State) : DesksOnly s (startReply d s) := by
  unfold startReply
  simp only
  split
  · exact desksOnly_setDesk ..
  · exact .refl s

theorem desksOnly_startNotice (d : Desk) (s : State) : DesksOnly s (startNotice d s) := by
  unfold startNotice
  simp only
  split
  · exact desksOnly_setDesk ..
  · exact .refl s

theorem desksOnly_takeOffer (d : Desk) (s : State) : DesksOnly s (takeOffer d s) := by
  unfold takeOffer
  split
  · exact .refl s
  · exact desksOnly_setDesk ..

theorem loseMessage_moves (d : Desk) (s : State) : Moves s (loseMessage d s) :=
  moves_desks (desksOnly_loseMessage d s) desksLaw_loseMessage

theorem discardBad_moves (d : Desk) (s : State) : Moves s (discardBad d s) :=
  moves_desks (desksOnly_setDesk ..) desksLaw_discardBad

theorem commandDiscarded_moves (d : Desk) (s : State) :
    Moves s (if repliesFull (s.desk d) then discardCommand d (markAlive d (backToHunt d s)) else s) := by
  split
  · exact moves_desks
      (((desksOnly_backToHunt d s).trans (desksOnly_markAlive d _)).trans (desksOnly_setDesk ..))
      fun h => desksLaw_discardCommand (desksLaw_markAlive (desksLaw_backToHunt h))
  · exact .refl

/-- A byte collected keeps the assembler what it can be (R159). -/
theorem collected_moves (d : Desk) (b : Byte) (s : State) :
    Moves s (setDesk d { s.desk d with assembler := (feedByte (s.desk d).assembler b).1, gap := 0 } s) :=
  moves_desks (desksOnly_setDesk ..) fun h => desksLaw_setDesk h
    fun ⟨⟨hrep, hnot, hover, hbad, _, hlive, hmask, hasm, hempty⟩, hr⟩ =>
      ⟨⟨hrep, hnot, hover, hbad, Nat.zero_le _, hlive, hmask, assemblerLegal_feedByte b hasm, hempty⟩, hr⟩

theorem byteReceived_moves {d : Desk} {b : Byte} {s t : State} (h : execByteReceived d b s = .next t) : Moves s t := by
  refine (loseMessage_moves d s).trans ?_
  revert h
  unfold execByteReceived
  simp only
  generalize loseMessage d s = u
  intro h
  split at h
  · next a e =>
    obtain rfl : a = (feedByte (u.desk d).assembler b).1 := by rw [e]
    obtain rfl := Host.Outcome.next.inj h
    exact collected_moves d b u
  · obtain rfl := Host.Outcome.next.inj h
    exact discardBad_moves d u
  · obtain rfl := Host.Outcome.next.inj h
    exact messageArrives_moves ..

/-! ### The Loader -/

/-- A result that may be stored: STOPPED names a message of an image (R178). -/
def ResultGood (r : LoadResult) : Prop := loaderLegal ⟨.running, some r⟩ = true

theorem endLoad_moves {r : LoadResult} {s : State} (hr : loaderLegal s.loader = true → ResultGood r) :
    Moves s (endLoad r s) :=
  (Moves.of (.loader hr)).tail (.desks (desksOnly_offerWhere ..) desksLaw_offerWhere)

/-- What the law of the Loader says of a message being read (R178). -/
theorem loaderLegal_message {l : Loader} {k count : Nat} {r : Reading} (hl : loaderLegal l = true)
    (h : l.stage = .message k count r) : 1 ≤ k ∧ k ≤ count ∧ count ≤ 1000 := by
  rw [loaderLegal, h] at hl
  simp only [Bool.and_eq_true, decide_eq_true_eq] at hl
  obtain ⟨⟨⟨⟨hk, hkc⟩, hc⟩, -⟩, -⟩ := hl
  exact ⟨hk, hkc, hc⟩

theorem resultGood_stopped {s : State} {k count : Nat} {r : Reading} (h : s.loader.stage = .message k count r)
    (reason : Byte) (hl : loaderLegal s.loader = true) : ResultGood (.stopped k reason) := by
  obtain ⟨hk, hkc, hc⟩ := loaderLegal_message hl h
  simp only [ResultGood, loaderLegal, Bool.true_and, Bool.and_eq_true, decide_eq_true_eq]
  omega

theorem memorySilent_moves (s : State) : Moves s (memorySilent s) := by
  unfold memorySilent
  split
  · exact .refl
  · exact endLoad_moves fun _ => rfl
  · next h => exact endLoad_moves (resultGood_stopped h 255)

theorem memoryFails_moves (s : State) : Moves s (memoryFails s) := by
  unfold memoryFails
  split
  · exact .refl
  · split
    · exact memorySilent_moves s
    · exact .refl
  · split
    · exact memorySilent_moves s
    · exact .refl

theorem judgeHeader_le {bytes : List Byte} {count : Nat} (h : judgeHeader bytes = some count) : count ≤ 1000 := by
  unfold judgeHeader at h
  split at h
  · simp only at h
    split at h
    · next hb =>
      obtain rfl := Option.some.inj h
      exact hb.2.2
    · exact absurd h (by simp)
  · exact absurd h (by simp)

theorem readHeader_moves (bytes : List Byte) (s : State) : Moves s (readHeader bytes s) := by
  unfold readHeader
  split
  · simp only
    split
    · exact memorySilent_moves s
    · split
      · next hlen => exact Moves.of (.loader (loaderLegal_stage (by simpa [loaderLegal] using hlen)))
      · split
        · exact endLoad_moves fun _ => rfl
        · exact endLoad_moves fun _ => rfl
        · next count hj =>
          have hle := judgeHeader_le hj
          exact Moves.of (.loader (loaderLegal_stage (by simpa [loaderLegal, imageUnfinished] using hle)))
  · exact .refl

/-- What an image message does is work of its owner's block (R179). -/
theorem imageDecision_works (code line : Byte) (args : List Byte) (s : State) :
    Works s (imageDecision code line args s).state := by
  unfold imageDecision
  split
  · exact .refl
  · next op _ =>
    unfold loaderDecides
    split
    · exact .refl
    · split
      · exact .refl
      · exact .refl
      · exact .refl
      · exact .refl
      · next h1 h2 h3 h4 =>
        have ho : ownerOf op ≠ .controller := fun h => by
          cases op with
          | nop => exact h1 rfl
          | linkStatus => exact h2 rfl
          | setMask => exact h3 rfl
          | _ => exact absurd h (by simp [ownerOf])
        exact decideOp_works ho h4 .loader line args s

theorem decideImage_moves {bytes : List Byte} {k count : Nat} {r : Reading} {s : State}
    (h : s.loader.stage = .message k count r) : Moves s (decideImage bytes k count s) := by
  unfold decideImage
  split
  · exact endLoad_moves (resultGood_stopped h 255)
  · next code line args _ =>
    have hw := imageDecision_works code line args s
    have hload := hw.loader_eq
    have h' : (imageDecision code line args s).state.loader.stage = .message k count r := by rw [hload, h]
    simp only
    refine (Moves.works hw).trans ?_
    split
    · split
      · next hk =>
        refine Moves.of (.loader fun hl => loaderLegal_stage ?_ hl)
        obtain ⟨-, -, hc⟩ := loaderLegal_message hl h'
        simp only [loaderLegal, imageUnfinished, Bool.and_true, Bool.and_eq_true, decide_eq_true_eq]
        omega
      · exact endLoad_moves fun _ => rfl
    · exact endLoad_moves (resultGood_stopped h' _)

theorem readMessage_moves (bytes : List Byte) (s : State) : Moves s (readMessage bytes s) := by
  unfold readMessage
  split
  · next h =>
    simp only
    split
    · exact memorySilent_moves s
    · split
      · next hu =>
        refine Moves.of (.loader fun hl => loaderLegal_stage ?_ hl)
        obtain ⟨hk, hkc, hc⟩ := loaderLegal_message hl h
        simp only [loaderLegal, Bool.and_true, Bool.and_eq_true, decide_eq_true_eq]
        exact ⟨⟨⟨hk, hkc⟩, hc⟩, hu⟩
      · exact decideImage_moves h
  · exact .refl

/-! ### Every command -/

theorem goesTo_moves {s t u : State} (h : Moves s u) (he : goesTo u = .next t) : Moves s t := by
  obtain rfl := Host.Outcome.next.inj he
  exact h

theorem takeParty_moves (e : PartyEvent) (s : State) : Moves s (takeParty e s) := Moves.of (.work (.wires _))

theorem partyPresent_moves {n : Line} {s t : State} (h : execPartyPresent n s = .next t) : Moves s t := by
  refine goesTo_moves ((takeParty_moves (.present n) s).trans ?_) h
  split
  · next hf => exact Moves.works (partyPresent_works hf)
  · exact .refl

theorem partyGone_moves {n : Line} {s t : State} (h : execPartyGone n s = .next t) : Moves s t := by
  refine goesTo_moves ((takeParty_moves (.gone n) s).trans ?_) h
  split
  · exact .refl
  · exact Moves.works (freeLine_works n _)

theorem fadeComplete_moves {n : Line} {tag : LeaveTag} {s t : State} (h : execFadeComplete n tag s = .next t) :
    Moves s t := by
  have hwires : Moves s (s.withWires { s.wires with fades := s.wires.fades.erase (n, tag) }) := Moves.of (.work (.wires _))
  unfold execFadeComplete at h
  simp only at h
  split at h
  · next hdest =>
    refine goesTo_moves (hwires.trans ?_) h
    split
    · exact Moves.works (enterDest_works hdest)
    · exact .refl
  · exact goesTo_moves hwires h

theorem clearingTimeout_moves {n : Line} {s t : State} (h : execClearingTimeout n s = .next t) : Moves s t := by
  unfold execClearingTimeout at h
  split at h
  · refine goesTo_moves ?_ h
    split
    · exact Moves.works (freeLine_works n s)
    · exact .refl
  · exact goesTo_moves .refl h

theorem primaryRoleLoss_moves {roles : List (Fin 44)} {s t : State} (h : execPrimaryRoleLoss roles s = .next t) :
    Moves s t := by
  unfold execPrimaryRoleLoss at h
  split at h
  · refine goesTo_moves (u := commit (freeLines (losesPrimary roles s) s.lines)
      (s.withWires { s.wires with mapChanges := s.wires.mapChanges.tail })) ?_ h
    exact (Moves.of (.work (.wires _))).trans (Moves.works (commit_works (.free _)))
  · exact goesTo_moves .refl h

/-- Every command is moves that keep the laws. -/
theorem exec_moves {c : Instr} {s t : State} (h : exec c s = .next t) : Moves s t := by
  cases c with
  | reset e0 e1 e2 => exact goesTo_moves (Moves.of (.reset fun d => if d = 0 then e0 else if d = 1 then e1 else e2)) h
  | nop | linkStatus | setMask | unknownCommand => exact goesTo_moves (messageArrives_moves ..) h
  | badMessage => exact goesTo_moves (discardBad_moves ..) h
  | messageGapTimeout => exact goesTo_moves (loseMessage_moves ..) h
  | commandDiscarded => exact goesTo_moves (commandDiscarded_moves ..) h
  | linkLost => exact goesTo_moves (moves_desks (desksOnly_loseLink ..) desksLaw_loseLink) h
  | livenessBlockEnd => exact goesTo_moves (moves_desks (desksOnly_linkBlockEnd ..) desksLaw_linkBlockEnd) h
  | linkLiveAtLineTable d =>
    exact goesTo_moves ((takeLinkEvent_moves d s rfl).trans (Moves.works (lineTableLink_works ..))) h
  | linkLostAtLineTable d =>
    exact goesTo_moves ((takeLinkEvent_moves d s rfl).trans (Moves.works (lineTableLink_works ..))) h
  | linkLiveAtTalkArbiter d =>
    exact goesTo_moves ((takeLinkEvent_moves d s rfl).trans (Moves.works (talkLinkLive_works ..))) h
  | linkLostAtTalkArbiter d =>
    exact goesTo_moves ((takeLinkEvent_moves d s rfl).trans (Moves.works (talkLinkLost_works ..))) h
  | sendReply => exact goesTo_moves (moves_desks (desksOnly_startReply ..) desksLaw_startReply) h
  | sendNotice => exact goesTo_moves (moves_desks (desksOnly_startNotice ..) desksLaw_startNotice) h
  | messageSent => exact goesTo_moves (moves_desks (desksOnly_setDesk ..) desksLaw_finishSending) h
  | noticeOffer => exact goesTo_moves (moves_desks (desksOnly_takeOffer ..) desksLaw_takeOffer) h
  | partyPresent => exact partyPresent_moves h
  | partyGone => exact partyGone_moves h
  | fadeComplete => exact fadeComplete_moves h
  | clearingCountTick => exact goesTo_moves (Moves.of (.work (.lines .tick))) h
  | clearingTimeout => exact clearingTimeout_moves h
  | primaryRoleLoss => exact primaryRoleLoss_moves h
  | stateChangedReport =>
    exact goesTo_moves ((Moves.of (.work (.wires _))).trans (Moves.works (recheckLine_works ..))) h
  | pathRestart => exact goesTo_moves ((Moves.of (.work (.wires _))).trans (Moves.works (pathRestart_works ..))) h
  | talkTimeout => exact goesTo_moves (Moves.works (talkBlockEnd_works s)) h
  | laneInputFrame lanes => exact goesTo_moves (Moves.works (takeFrame_works lanes s)) h
  | frameComputation => exact goesTo_moves (Moves.works (computeFrame_works s)) h
  | clipQuietTick => exact goesTo_moves (Moves.works (quietBlockEnd_works s)) h
  | pendingClipNotice o => exact goesTo_moves (Moves.works (raisePending_works s o)) h
  | blockStart => exact goesTo_moves (Moves.works (startBlock_works s)) h
  | inputMapApply => exact goesTo_moves (Moves.works (mapTaken_works _ s)) ((execInputMapApply_eq s).symm.trans h)
  | outputMapApply => exact goesTo_moves (Moves.of (.work (.maps _))) h
  | referenceLaneChange => exact goesTo_moves (Moves.works (applyReference_works s)) h
  | laneBlockEnd => exact goesTo_moves (Moves.works (lanesBlockEnd_works s)) h
  | clockRelock => exact goesTo_moves (Moves.works (relockClock_works s)) h
  | pathBlockEnd => exact goesTo_moves (Moves.works (pathsBlockEnd_works s)) h
  | pendingModeApply n =>
    exact goesTo_moves (Moves.works (works_of_eq_or (pathParts_cases n s).1 (pathsBlockEnd_works s))) h
  | failover n =>
    exact goesTo_moves (Moves.works (works_of_eq_or (pathParts_cases n s).2.1 (pathsBlockEnd_works s))) h
  | revert n =>
    exact goesTo_moves (Moves.works (works_of_eq_or (pathParts_cases n s).2.2 (pathsBlockEnd_works s))) h
  | feedJudgement => exact goesTo_moves (Moves.works (feedsBlockEnd_works s)) h
  | baseLevelTransition x =>
    exact goesTo_moves (Moves.works (works_of_eq_or (baseLevelStep_cases x s) (feedsBlockEnd_works s))) h
  | loaderHeader => exact goesTo_moves (readHeader_moves ..) h
  | loaderMessage => exact goesTo_moves (readMessage_moves ..) h
  | memoryTimeout => exact goesTo_moves (memoryFails_moves s) h
  | byteReceived => exact byteReceived_moves h
  -- The desk commands that an owner decides.
  | _ => exact goesTo_moves (deskCommand_moves (by decide) ..) h

end Sys2Proof.Proofs.Steps
end

section
/-! PROOFS. The laws every step keeps (O55 to O60), each by its moves, and the step itself (O1, O2). -/

namespace Sys2Proof.Proofs.Laws

open Sys2Proof Sys2Proof.Machine Sys2Proof.Safety Sys2Proof.Claims
open Sys2Proof.Proofs.Decisions Sys2Proof.Proofs.LineMoves Sys2Proof.Proofs.Owners
open Sys2Proof.Proofs.DeskLaws Sys2Proof.Proofs.Steps

/-! ### From moves to steps -/

theorem step_cases {s t : State} (h : step s = .next t) :
    t = s ∨ ∃ rest, Moves (s.withPending rest) t := by
  unfold step at h
  split at h
  · exact .inl (Host.Outcome.next.inj h).symm
  · exact .inr ⟨_, exec_moves h⟩

/-- What the waiting commands do not touch and every move keeps, every step keeps. -/
theorem step_keeps {P : State → Prop} (hp : ∀ s rest, P s → P (s.withPending rest))
    (hm : ∀ s t, Move s t → P s → P t) {s t : State} (hs : P s) (h : step s = .next t) : P t := by
  rcases step_cases h with rfl | ⟨rest, hmoves⟩
  · exact hs
  · have := hp s rest hs
    clear h
    induction hmoves with
    | refl => exact this
    | tail _ hmove ih => exact hm _ _ hmove ih

/-- The blocks that the controllers' steps leave alone. -/
theorem desksOnly_fields {s t : State} (h : DesksOnly s t) :
    t.lines = s.lines ∧ t.ctx = s.ctx ∧ t.mix = s.mix ∧ t.talk = s.talk ∧ t.paths = s.paths ∧ t.lanes = s.lanes ∧
      t.loader = s.loader := by
  rw [h]
  exact ⟨rfl, rfl, rfl, rfl, rfl, rfl, rfl⟩

/-- A law of the Line Table that its moves and RESET keep. -/
theorem move_keeps_lines {P : LineTable → Prop} (hm : ∀ lt lt', LineMove lt lt' → P lt → P lt') (hr : P LineTable.reset)
    {s t : State} (h : Move s t) (hs : P s.lines) : P t.lines := by
  cases h with
  | work hw =>
    cases hw with
    | lines hl => exact hm _ _ hl hs
    | _ => exact hs
  | desks hd _ =>
    rw [(desksOnly_fields hd).1]
    exact hs
  | loader _ => exact hs
  | reset _ => exact hr

/-! ### The state after reset -/

theorem reset_rec (n : Line) : LineTable.reset.recs[n] = LineRec.reset := ofFn_get _ n

theorem queueGood_reset (x : Studio) : QueueGood LineTable.reset x := by
  refine ⟨fun n => ?_, ?_⟩
  · rw [reset_rec]
    cases x <;> rfl
  · cases x <;> exact Nat.zero_le _

theorem destLaw_reset : DestLaw LineTable.reset := fun n => by
  rw [reset_rec]
  rfl

theorem occupancy_reset (g : Group) : occupancy LineTable.reset g = 0 := by
  rw [occupancy_eq_sum]
  refine List.sum_eq_zero fun v hv => ?_
  obtain ⟨n, -, rfl⟩ := List.mem_map.1 hv
  rw [reset_rec]
  rfl

theorem recordLaw_reset : RecordLaw LineTable.reset := fun n => by
  rw [reset_rec]
  decide

/-! ### Queues, destinations and capacities -/

/-- Settles O56: every move of the Line Table keeps each line's due entries (R27, R28, R63). -/
theorem stepsKeepTheReadyQueues : Obligations.StepsKeepTheReadyQueues := by
  unfold Obligations.StepsKeepTheReadyQueues
  intro s t hq hd h
  have hkeep : (∀ x, QueueGood t.lines x) ∧ DestLaw t.lines :=
    step_keeps (P := fun s => (∀ x, QueueGood s.lines x) ∧ DestLaw s.lines) (fun _ _ => id)
      (fun _ _ => move_keeps_lines (P := fun lt => (∀ x, QueueGood lt x) ∧ DestLaw lt)
        (fun _ _ hm ⟨hq, hd⟩ => ⟨queueGood_of_lineMove hm hd hq, destLaw_of_lineMove hm hd⟩)
        ⟨queueGood_reset, destLaw_reset⟩)
      ⟨(queueLaw_iff _).1 hq, hd⟩ h
  exact ⟨(queueLaw_iff _).2 hkeep.1, hkeep.2⟩

/-- Settles O57: every move of the Line Table that enters a group finds room in it (R8, R51). -/
theorem stepsKeepTheCapacities : Obligations.StepsKeepTheCapacities := by
  unfold Obligations.StepsKeepTheCapacities
  intro s t hc h
  refine (capacityLaw_iff _).2 (step_keeps (P := fun s => ∀ g, occupancy s.lines g ≤ capacity g) (fun _ _ => id)
    (fun _ _ => move_keeps_lines (P := fun lt => ∀ g, occupancy lt g ≤ capacity g)
      (fun _ _ => capacity_of_lineMove) fun g => ?_)
    ((capacityLaw_iff _).1 hc) h)
  rw [occupancy_reset]
  exact Nat.zero_le _

/-! ### Controllers -/

theorem deskLaw_reset (strap : Bool) : DeskLaw (Controller.reset strap) := by
  refine ⟨?_, ?_, rfl⟩
  · cases strap <;> decide
  · rw [replyLaw_iff]
    exact fun _ => rfl

theorem move_keeps_desksLaw {s t : State} (h : Move s t) (hs : DesksLaw s) : DesksLaw t := by
  cases h with
  | work hw =>
    obtain ⟨ns, hns⟩ := (Works.of hw).offers
    intro d
    rw [hns d]
    exact deskLaw_offered _ (hs d)
  | desks _ hl => exact hl hs
  | loader _ => exact hs
  | reset straps =>
    intro d
    have : (resetWith straps s).desk d = Controller.reset (straps d) := ofFn_get _ d
    rw [this]
    exact deskLaw_reset _

/-- Settles O58: each controller's own step keeps its laws, and the other blocks hand it notices alone. -/
theorem stepsKeepTheControllers : Obligations.StepsKeepTheControllers := by
  unfold Obligations.StepsKeepTheControllers
  intro s t hs h
  exact step_keeps (P := DesksLaw) (fun _ _ => id) (fun _ _ => move_keeps_desksLaw) hs h

/-! ### Talk holders -/

/-- Every holder's link view is LIVE, in the Talk Arbiter's own terms (R115). -/
def HoldersLive (t : TalkArbiter) : Prop := ∀ n : Line, ∀ h, t.holds[n] = some h → t.view[h.holder] = .live

theorem holderLaw_iff (s : State) : HolderLaw s ↔ HoldersLive s.talk := by
  refine forall_congr' fun n => ?_
  cases s.talk.holds[n] with
  | none => simp
  | some h => simp

theorem holdersLive_of_talkMove {t t' : TalkArbiter} (hm : TalkMove t t') (h : HoldersLive t) : HoldersLive t' := by
  intro n k hk
  cases hm with
  | grant d m start hlive =>
    simp only [set_get] at hk
    split at hk
    · obtain rfl := Option.some.inj hk
      exact hlive
    · exact h n k hk
  | release hv =>
    rcases hv n with e | e
    · exact absurd (e.symm.trans hk) (by simp)
    · exact h n k (e.symm.trans hk)
  | live d =>
    simp only [set_get]
    split
    · rfl
    · exact h n k hk
  | lost d hv =>
    rcases hv n with e | ⟨e, hne⟩
    · exact absurd (e.symm.trans hk) (by simp)
    · have hold : t.holds[n] = some k := e.symm.trans hk
      simp only [set_get]
      split
      · next hd => exact absurd (by rw [hold, Option.map_some, hd]) hne
      · exact h n k hold
  | gain | timeout => exact h n k hk

theorem move_keeps_holders {s t : State} (h : Move s t) (hs : HoldersLive s.talk) : HoldersLive t.talk := by
  cases h with
  | work hw =>
    cases hw with
    | talk ht => exact holdersLive_of_talkMove ht hs
    | _ => exact hs
  | desks hd _ =>
    obtain ⟨-, -, -, htalk, -⟩ := desksOnly_fields hd
    rw [htalk]
    exact hs
  | loader _ => exact hs
  | reset _ =>
    intro n k hk
    exact absurd ((ofFn_get (fun _ => none) n).symm.trans hk) (by simp)

/-- Settles O59: a hold is granted under a LIVE view alone, and a view that goes LOST releases its desk's holds. -/
theorem stepsKeepHoldersLive : Obligations.StepsKeepHoldersLive := by
  unfold Obligations.StepsKeepHoldersLive
  intro s t hs h
  exact (holderLaw_iff t).2 (step_keeps (P := fun s => HoldersLive s.talk) (fun _ _ => id)
    (fun _ _ => move_keeps_holders) ((holderLaw_iff s).1 hs) h)

/-! ### Ranges -/

/-- Every value of the part lies in its range, block by block (R1, R75, R100, R103, R115, R131, R148, R174, R178). -/
structure RangesGood (s : State) : Prop where
  records : RecordLaw s.lines
  ctx : CtxGood s.ctx
  gains : CurrentGood s.mix
  talk : TalkGood s.talk
  paths : ∀ n : Line, PathGood s.paths[n]
  clock : ClockLaw s.lanes
  output : OutputLaw s.mix
  loader : loaderLegal s.loader = true

theorem forall_studio {P : Studio → Prop} : (∀ x, P x) ↔ P .a ∧ P .b :=
  ⟨fun h => ⟨h .a, h .b⟩, fun h x => by cases x; exacts [h.1, h.2]⟩

theorem rangesGood_iff (s : State) : RangesGood s ↔
    RecordLaw s.lines ∧ GainLaw s ∧ RunLaw s ∧ (∀ n : Line, ModeLaw s.paths[n]) ∧ ClockLaw s.lanes ∧ OutputLaw s.mix ∧
      loaderLegal s.loader = true := by
  constructor
  · rintro ⟨hrec, ⟨hst, hscreen⟩, ⟨hlines, hgains, htalk⟩, ht, hpaths, hclock, hout, hload⟩
    obtain ⟨⟨hsa, hra⟩, ⟨hsb, hrb⟩⟩ := forall_studio.1 hst
    obtain ⟨hga, hgb⟩ := forall_studio.1 hgains
    exact ⟨hrec, ⟨hsa, hsb, hscreen.1, hscreen.2, hlines, hga.1, hga.2.1, hga.2.2, hgb.1, hgb.2.1, hgb.2.2, htalk, ht⟩,
      ⟨hra.1, hra.2, hrb.1, hrb.2, fun n => (hpaths n).1⟩, fun n => (hpaths n).2, hclock, hout, hload⟩
  · rintro ⟨hrec, ⟨hsa, hsb, hduck, hgain, hlines, h1, h2, h3, h4, h5, h6, htalk, ht⟩,
      ⟨hra, hra', hrb, hrb', hruns⟩, hmode, hclock, hout, hload⟩
    exact { records := hrec, ctx := ⟨forall_studio.2 ⟨⟨hsa, hra, hra'⟩, ⟨hsb, hrb, hrb'⟩⟩, hduck, hgain⟩
            gains := ⟨hlines, forall_studio.2 ⟨⟨h1, h2, h3⟩, ⟨h4, h5, h6⟩⟩, htalk⟩, talk := ht
            paths := fun n => ⟨hruns n, hmode n⟩, clock := hclock, output := hout, loader := hload }

theorem talkGood_of_talkMove {t t' : TalkArbiter} (hm : TalkMove t t') (h : TalkGood t) : TalkGood t' := by
  intro d
  obtain ⟨hg, ht⟩ := h d
  cases hm with
  | grant | release | live | lost => exact ⟨hg, ht⟩
  | gain e hv =>
    simp only [set_get]
    split
    · exact ⟨hv, ht⟩
    · exact ⟨hg, ht⟩
  | timeout e hv =>
    simp only [set_get]
    split
    · exact ⟨hg, hv⟩
    · exact ⟨hg, ht⟩

theorem work_keeps_ranges {s t : State} (h : Work s t) (hs : RangesGood s) : RangesGood t := by
  cases h with
  | offers | wires | maps => exact { hs with }
  | lines hl => exact { hs with records := recordLaw_of_lineMove hl hs.records }
  | talk ht => exact { hs with talk := talkGood_of_talkMove ht hs.talk }
  | ctx hc => exact { hs with ctx := hc hs.ctx }
  | mix hc ho => exact { hs with gains := hc hs.records hs.ctx hs.gains, output := ho hs.output }
  | paths hp => exact { hs with paths := fun n => hp n (hs.paths n) }
  | lanes hc => exact { hs with clock := hc hs.clock }

/-! ### The values after reset -/

theorem studioGood_reset : StudioGood StudioCtx.reset := by
  unfold StudioGood
  decide

theorem pathGood_reset : PathGood PathLine.reset := by
  unfold PathGood
  decide

theorem currentGood_reset : CurrentGood MixEngine.reset := by
  refine ⟨fun n => ?_, fun x => ?_, Nat.zero_le _⟩
  · have h (n : Line) : (Vector.ofFn fun _ : Line => 0)[n] ≤ 32767 := by
      rw [ofFn_get]
      omega
    exact ⟨h n, h n⟩
  · cases x <;> exact ⟨Nat.zero_le _, Nat.zero_le _, Nat.zero_le _⟩

theorem talkGood_reset : TalkGood TalkArbiter.reset := by
  intro d
  simp only [TalkArbiter.reset, ofFn_get]
  decide

theorem peaksGood_zero : PeaksGood PeakSet.zero := by
  refine ⟨fun n => ?_, fun i => ?_⟩ <;> simp only [PeakSet.zero, ofFn_get]
  · exact ⟨Nat.zero_le _, Nat.zero_le _⟩
  · exact Nat.zero_le _

theorem outputLaw_reset : OutputLaw MixEngine.reset := by
  refine ⟨fun n => ?_, fun i => ?_, fun o => ?_, fun d => ?_⟩
  · have h : MixEngine.reset.results.returns[n] = ⟨0, false, false⟩ := ofFn_get _ n
    rw [h]
    constructor <;> decide
  · have h : MixEngine.reset.results.groups[i] = 0 := ofFn_get _ i
    rw [h]
    constructor <;> decide
  · have h : MixEngine.reset.clips[o] = ⟨0, 0, false⟩ := ofFn_get _ o
    rw [h]
    exact ⟨Nat.zero_le _, Nat.zero_le _⟩
  · have h : MixEngine.reset.peaks[d] = PeakSet.zero := ofFn_get _ d
    rw [h]
    exact peaksGood_zero

theorem clockLaw_reset : ClockLaw LaneInterface.reset := by
  refine ⟨Nat.zero_le _, Nat.zero_le _, fun i => ?_, fun h => nomatch h⟩
  have h : LaneInterface.reset.unlocked[i] = 0 := ofFn_get _ i
  rw [h]
  exact Nat.zero_le _

theorem rangesGood_reset : RangesGood State.reset :=
  { records := recordLaw_reset
    ctx := ⟨fun x => by cases x <;> exact studioGood_reset, by decide, by decide⟩
    gains := currentGood_reset
    talk := talkGood_reset
    paths := fun n => by
      have h : State.reset.paths[n] = PathLine.reset := ofFn_get _ n
      rw [h]
      exact pathGood_reset
    clock := clockLaw_reset
    output := outputLaw_reset
    loader := rfl }

theorem move_keeps_ranges {s t : State} (h : Move s t) (hs : RangesGood s) : RangesGood t := by
  cases h with
  | work hw => exact work_keeps_ranges hw hs
  | desks hd _ =>
    rw [hd]
    exact { hs with }
  | loader hl => exact { hs with loader := hl hs.loader }
  | reset _ => exact { rangesGood_reset with }

/-- Settles O60: every block's own changes keep its values in their ranges. -/
theorem stepsKeepTheRanges : Obligations.StepsKeepTheRanges := by
  unfold Obligations.StepsKeepTheRanges
  intro s t hrec hgain hrun hmode hclock hout hload h
  exact (rangesGood_iff t).1 (step_keeps (P := RangesGood) (fun _ _ hs => { hs with }) (fun _ _ => move_keeps_ranges)
    ((rangesGood_iff s).2 ⟨hrec, hgain, hrun, hmode, hclock, hout, hload⟩) h)

/-- Settles O55: the values of reset, block by block. -/
theorem resetMeetsTheLaws : Obligations.ResetMeetsTheLaws := by
  unfold Obligations.ResetMeetsTheLaws
  obtain ⟨hrec, hgain, hrun, hmode, hclock, hout, hload⟩ := (rangesGood_iff _).1 rangesGood_reset
  have hcap : CapacityLaw State.reset.lines :=
    (capacityLaw_iff _).2 fun g => (occupancy_reset g).le.trans (Nat.zero_le _)
  have hholders : HolderLaw State.reset := (holderLaw_iff _).2 fun n k hk =>
    absurd ((ofFn_get (fun _ => none) n).symm.trans hk) (by simp)
  refine ⟨(queueLaw_iff _).2 queueGood_reset, destLaw_reset, hcap, hrec, hholders, hgain, hrun, hmode, hclock, hout,
    hload, fun d => ?_⟩
  have hd : State.reset.desk d = Controller.reset false := ofFn_get _ d
  rw [hd]
  exact deskLaw_reset false

/-! ### The step -/

/-- Settles O1: by the definition of a step. -/
theorem stepRunsTheFrontCommand : Obligations.StepRunsTheFrontCommand := fun _ _ _ => ⟨rfl, rfl⟩

/-- No row stops the part. -/
theorem exec_completes (c : Instr) (s : State) : ∃ t, exec c s = .next t := by
  cases c with
  | byteReceived d b =>
    simp only [exec, execByteReceived]
    split <;> exact ⟨_, rfl⟩
  | fadeComplete n tag =>
    simp only [exec, execFadeComplete]
    split <;> exact ⟨_, rfl⟩
  | clearingTimeout n =>
    simp only [exec, execClearingTimeout]
    split <;> exact ⟨_, rfl⟩
  | primaryRoleLoss roles =>
    simp only [exec, execPrimaryRoleLoss]
    split <;> exact ⟨_, rfl⟩
  | _ => exact ⟨_, rfl⟩

theorem move_pending {s t : State} (h : Move s t) : t.pending = s.pending := by
  cases h with
  | work hw => cases hw <;> rfl
  | desks hd _ => rw [hd]; rfl
  | loader _ => rfl
  | reset _ => rfl

/-- Settles O2: no move touches the commands that wait. -/
theorem everyCommandCompletes : Obligations.EveryCommandCompletes := by
  unfold Obligations.EveryCommandCompletes
  intro c s
  obtain ⟨t, ht⟩ := exec_completes c s
  refine ⟨t, ht, ?_⟩
  have hmoves := exec_moves ht
  clear ht
  induction hmoves with
  | refl => rfl
  | tail _ hmove ih => exact (move_pending hmove).trans ih

end Sys2Proof.Proofs.Laws
end

section
/-! PROOFS. The check order of the line commands (R13): the model's steps 1 to 7 are the statements' table, so a line command
is refused by the first check that fails, and otherwise has its effect. -/

namespace Sys2Proof.Proofs.Checks

open Sys2Proof Sys2Proof.Machine Sys2Proof.Claims
open Sys2Proof.Proofs.Talk Sys2Proof.Proofs.Decisions Sys2Proof.Proofs.Owners

/-! ### Desks and studios -/

/-- The studio a studio desk's commands act in. -/
def ownStudio (d : Desk) : Studio := if d = 0 then .a else .b

theorem studioOfDesk_of_ne {d : Desk} (h : d ≠ 2) : studioOfDesk d = some (ownStudio d) := by
  revert d
  decide

theorem deskOf_beq (d : Desk) (x : Studio) : (d == deskOf x) = decide (d ≠ 2 ∧ x = ownStudio d) := by
  revert d
  cases x <;> decide

theorem studioOfDesk_isSome (d : Desk) : (studioOfDesk d).isSome = (d != 2) := by
  revert d
  decide

/-! ### Steps 2 to 5 -/

theorem isFree_iff (st : LineState) : isFree st = true ↔ st = .free := isFree_eq_true_iff

theorem passesRights_eq (fallback : Bool) (op : Op) (d : Desk) (r : LineRec) :
    passesRights fallback op (.desk d) r = maySend fallback op d r := by
  simp only [passesRights, maySend, hasRights_eq, ownHoldRight]
  by_cases h : op = .setHome ∧ d ≠ 2
  · rw [if_pos h, h.1, beq_eq_false_iff_ne.2 h.2]
    rfl
  · have hand : (op != .setHome || d == 2) = true := by
      by_cases ho : op = .setHome
      · have hd : d = 2 := not_not.1 fun e => h ⟨ho, e⟩
        simp [hd]
      · simp [ho]
    rw [if_neg h, hand, Bool.true_and, Bool.or_comm (isClearing r.state)]

/-- Step 5 for a desk that has rights on the line (R14, R66). -/
theorem admits_eq_passesFive {fallback : Bool} {op : Op} {d : Desk} {r : LineRec}
    (h : maySend fallback op d r = true) :
    ((destOf r.state).isSome && !admitsLeaving op (.desk d) r.state) = !passesFive op r.state := by
  by_cases hd : op = .drop
  · subst hd
    simp [admitsLeaving, passesFive]
  by_cases ht : op = .take
  · subst ht
    cases hst : r.state with
    | air x p =>
      have hx : (d == deskOf x) = true := by simpa [maySend, rightsOf, hst, isClearing] using h
      rw [deskOf_beq, decide_eq_true_eq] at hx
      simp [admitsLeaving, passesFive, senderStudio, studioOfDesk_of_ne hx.1, hx.2]
    | screen p => cases p <;> rfl
    | priv x p => cases p <;> rfl
    | _ => rfl
  · have hadm : admitsLeaving op (.desk d) r.state = false := by
      unfold admitsLeaving
      split
      · exact absurd rfl hd
      · exact absurd rfl ht
      · rfl
    rw [hadm]
    unfold passesFive
    split
    · exact absurd rfl hd
    · exact absurd rfl ht
    · next e => rw [e]; rfl
    · next e => rw [e]; rfl
    · next e => rw [e]; rfl
    · next h1 h2 h3 _ =>
      cases hst : r.state with
      | screen p =>
        cases p with
        | steady => rfl
        | leaving t => exact absurd hst (h1 _)
      | air x p =>
        cases p with
        | steady => rfl
        | leaving t => exact absurd hst (h2 _ _)
      | priv x p =>
        cases p with
        | steady => rfl
        | leaving t => exact absurd hst (h3 _ _)
      | _ => rfl

/-- Steps 2 to 5, for a desk, as the statements' table has them (R13). -/
theorem refusalAt_desk (op : Op) (d : Desk) (n : Line) (s : State) :
    refusalAt op (.desk d) n s =
      if equipped s n = false then some .notEquipped
      else if (s.line n).state = .free then some .noParty
      else if maySend s.lines.fallback op d (s.line n) = false then some .notYours
      else if passesFive op (s.line n).state = false then some .busy
      else none := by
  simp only [refusalAt, passesRights_eq, isFree_iff]
  by_cases hm : maySend s.lines.fallback op d (s.line n) = true
  · simp only [admits_eq_passesFive hm, Bool.not_eq_true']
  · rw [Bool.not_eq_true] at hm
    simp only [hm, if_true]

/-! ### Steps 6 and 7 -/

/-- Steps 6 and 7, then the command's own effect. -/
def stepsSixSeven (op : Op) (d : Desk) (args : List Byte) (n : Line) (s : State) (effect : Decision) : Decision :=
  if legal op d (s.line n) = false then refuse .wrongState s
  else if room op d args (s.line n) s.lines = false then refuse .full s
  else effect

theorem stepsSixSeven_of_illegal {op : Op} {d : Desk} {args : List Byte} {n : Line} {s : State} {effect : Decision}
    (h : legal op d (s.line n) = false) : stepsSixSeven op d args n s effect = refuse .wrongState s := if_pos h

theorem stepsSixSeven_of_legal {op : Op} {d : Desk} {args : List Byte} {n : Line} {s : State} {effect : Decision}
    (h : legal op d (s.line n) = true) : stepsSixSeven op d args n s effect =
      if room op d args (s.line n) s.lines = false then refuse .full s else effect := by
  rw [stepsSixSeven, if_neg (by rw [h]; exact Bool.noConfusion)]

theorem stepsSixSeven_of_room {op : Op} {d : Desk} {args : List Byte} {n : Line} {s : State} {effect : Decision}
    (h : legal op d (s.line n) = true) (hr : room op d args (s.line n) s.lines = true) :
    stepsSixSeven op d args n s effect = effect := by
  rw [stepsSixSeven_of_legal h, if_neg (by rw [hr]; exact Bool.noConfusion)]

/-- The command checked in the statements' order: what every line command is, by its effect. -/
def checked (op : Op) (d : Desk) (line : Byte) (args : List Byte) (s : State) (effect : Line → Decision) : Decision :=
  lineCommand op (.desk d) line s fun n => stepsSixSeven op d args n s (effect n)

/-- Two bodies of a line command need agree only on a line that passes steps 1 to 5. -/
theorem lineCommand_congr {op : Op} {snd : Sender} {line : Byte} {s : State} {body body' : Line → Decision}
    (h : ∀ n, refusalAt op snd n s = none → body n = body' n) :
    lineCommand op snd line s body = lineCommand op snd line s body' := by
  cases hl : lineOfByte line with
  | none => rw [lineCommand_noLine hl, lineCommand_noLine hl]
  | some n =>
    cases hr : refusalAt op snd n s with
    | none => rw [lineCommand_passes hl hr, lineCommand_passes hl hr, h n hr]
    | some r => rw [lineCommand_refused hl hr, lineCommand_refused hl hr]

section Table

variable {op : Op} {d : Desk} {line : Byte} {args : List Byte} {s : State} {effect : Line → Decision}

/-- A command whose arguments lie in their domains is refused by the first check that fails (R13). -/
theorem checked_of_firstRefusal {r : Result} (hd : argsInDomain op args = true)
    (h : firstRefusal op d line args s = some r) : checked op d line args s effect = refuse r s := by
  rw [firstRefusal, if_neg (by rw [hd]; exact Bool.noConfusion)] at h
  unfold checked
  cases hl : lineOfByte line with
  | none =>
    rw [hl] at h
    obtain rfl := Option.some.inj h
    exact lineCommand_noLine hl
  | some n =>
    rw [hl] at h
    simp only at h
    cases hr : refusalAt op (.desk d) n s with
    | some r' =>
      rw [lineCommand_refused hl hr]
      rw [refusalAt_desk] at hr
      split_ifs at h hr <;> simp_all
    | none =>
      rw [lineCommand_passes hl hr]
      rw [refusalAt_desk] at hr
      split_ifs at h hr with h1 h2 h3 h4 h5 h6
      · obtain rfl := Option.some.inj h
        exact stepsSixSeven_of_illegal h5
      · obtain rfl := Option.some.inj h
        rw [stepsSixSeven, if_neg h5, if_pos h6]

/-- A command that fails no check has its effect (R13). -/
theorem checked_of_accepted {n : Line} (h : Accepted s d op line args n) :
    argsInDomain op args = true ∧ checked op d line args s effect = effect n := by
  obtain ⟨-, -, hnone, hl⟩ := h
  rw [firstRefusal] at hnone
  split at hnone
  · exact absurd hnone (by simp)
  · next hdom =>
    refine ⟨Bool.eq_true_of_not_eq_false hdom, ?_⟩
    rw [hl] at hnone
    simp only at hnone
    split_ifs at hnone with h1 h2 h3 h4 h5 h6
    have hr : refusalAt op (.desk d) n s = none := by
      rw [refusalAt_desk, if_neg h1, if_neg h2, if_neg h3, if_neg h4]
    rw [checked, lineCommand_passes hl hr, stepsSixSeven, if_neg h5, if_neg h6]

end Table

/-- What passing steps 2 to 5 says of the line. -/
theorem passed_of_refusalAt {op : Op} {d : Desk} {n : Line} {s : State} (h : refusalAt op (.desk d) n s = none) :
    (s.line n).state ≠ .free ∧ maySend s.lines.fallback op d (s.line n) = true ∧
      passesFive op (s.line n).state = true := by
  rw [refusalAt_desk] at h
  split_ifs at h with h1 h2 h3 h4
  exact ⟨h2, Bool.eq_true_of_not_eq_false h3, Bool.eq_true_of_not_eq_false h4⟩

end Sys2Proof.Proofs.Checks
end

section
/-! PROOFS. The line commands one by one: each is the check order with its own effect (chapters 1 to 3). -/

namespace Sys2Proof.Proofs.LineOps

open Sys2Proof Sys2Proof.Machine Sys2Proof.Claims Sys2Proof.Safety
open Sys2Proof.Proofs.Talk Sys2Proof.Proofs.Decisions Sys2Proof.Proofs.Owners Sys2Proof.Proofs.Checks

/-! ### What passing the checks says of the line's state -/

/-- A line whose command is neither DROP nor TAKE is not LEAVING (R14). -/
theorem steady_of_passesFive {op : Op} {st : LineState} (hd : op ≠ .drop) (ht : op ≠ .take)
    (h : passesFive op st = true) : destOf st = none := by
  unfold passesFive at h
  split at h
  · exact absurd rfl hd
  · exact absurd rfl ht
  · exact absurd h Bool.noConfusion
  · exact absurd h Bool.noConfusion
  · exact absurd h Bool.noConfusion
  · next h1 h2 h3 _ =>
    cases st with
    | screen p =>
      cases p with
      | steady => rfl
      | leaving t => exact absurd rfl (h1 t)
    | air x p =>
      cases p with
      | steady => rfl
      | leaving t => exact absurd rfl (h2 x t)
    | priv x p =>
      cases p with
      | steady => rfl
      | leaving t => exact absurd rfl (h3 x t)
    | _ => rfl

theorem destOf_of_refusalAt {op : Op} {d : Desk} {n : Line} {s : State} (hd : op ≠ .drop) (ht : op ≠ .take)
    (h : refusalAt op (.desk d) n s = none) : destOf (s.line n).state = none := by
  obtain ⟨-, -, hp⟩ := passed_of_refusalAt h
  exact steady_of_passesFive hd ht hp

/-! ### Shared effects -/

/-- Line n's record and the two queues replaced, and the command taken with the given data. -/
def placed (n : Line) (r : LineRec) (q : PerStudio (List Entry)) (data : List Byte) (s : State) : Decision :=
  taken data (lineStep (put n r q s.lines) s)

theorem joinGroup_eq (g : Group) (st : LineState) (n : Line) (data : List Byte) (s : State) :
    joinGroup g st n data s = if groupHasRoom s.lines g = false then refuse .full s
      else placed n { s.line n with state := st } s.lines.queues data s := by
  unfold joinGroup
  rw [commit_eq_lineStep]
  cases groupHasRoom s.lines g <;> rfl

theorem joinFromQueue_eq (g : Group) (st : LineState) (n : Line) (data : List Byte) (s : State) :
    joinFromQueue g st n data s = if groupHasRoom s.lines g = false then refuse .full s
      else placed n { s.line n with state := st } (without n s.lines.queues) data s := by
  unfold joinFromQueue
  rw [commit_eq_lineStep]
  cases groupHasRoom s.lines g <;> rfl

theorem leaveInto_eq (g : Group) (t : Dest) (n : Line) (data : List Byte) (s : State) :
    leaveInto g t n data s = if groupHasRoom s.lines g = false then refuse .full s
      else placed n (leaving (s.line n) t) s.lines.queues data s := by
  unfold leaveInto
  rw [commit_eq_lineStep, startLeave_eq]
  cases groupHasRoom s.lines g <;> rfl

/-- The reply and the effect of a line put at the tail of studio x's queue, with the entry given. -/
def queued (n : Line) (r : LineRec) (x : Studio) (b : Bool) (q : PerStudio (List Entry)) (s : State) : Decision :=
  placed n r (atTail x ⟨n, b⟩ q) [BitVec.ofNat 8 (positionIn n ((atTail x ⟨n, b⟩ q).get x))] s

theorem addEntry_queues (x : Studio) (n : Line) (b : Bool) (lt : LineTable) :
    (addEntry x n b lt).queues = atTail x ⟨n, b⟩ lt.queues := by
  cases x <;> rfl

theorem setRec_addEntry (n : Line) (r : LineRec) (x : Studio) (b : Bool) (lt : LineTable) :
    setRec n r (addEntry x n b lt) = put n r (atTail x ⟨n, b⟩ lt.queues) lt := by
  rw [← addEntry_queues]
  rfl

theorem moveToTail_eq (n : Line) (own named : Studio) (s : State) :
    moveToTail n own named s = if (named == own || queueHasRoom s.lines named) = false then refuse .full s
      else queued n { s.line n with state := .queued named } named false (without n s.lines.queues) s := by
  have hmoved : commit (setState n (.queued named) (addEntry named n false (dropEntry n s.lines))) s =
      lineStep (put n { s.line n with state := .queued named } (atTail named ⟨n, false⟩ (without n s.lines.queues))
        s.lines) s := by
    rw [commit_eq_lineStep, setState, setRec_addEntry]
    rfl
  simp only [moveToTail, hmoved]
  by_cases hx : own = named
  · subst hx
    simp only [true_or, if_true, beq_self_eq_true, Bool.true_or]
    rfl
  · have hx' : (named == own) = false := beq_eq_false_iff_ne.2 (Ne.symm hx)
    simp only [hx, false_or, hx', Bool.false_or]
    cases queueHasRoom s.lines named <;> rfl

theorem taken_commit {n : Line} {r : LineRec} {q : PerStudio (List Entry)} {data : List Byte} {lt : LineTable}
    {s : State} (h : lt = put n r q s.lines) : taken data (commit lt s) = placed n r q data s := by
  rw [commit_eq_lineStep, h]
  rfl

/-! ### The screening commands -/

section Screening

variable (d : Desk) (line : Byte) (s : State)

theorem decide_answer : decideOp .answer (.desk d) line [] s = checked .answer d line [] s fun n =>
    placed n { s.line n with state := .screen .steady } s.lines.queues [] s :=
  lineCommand_congr fun n _ => by
    cases hst : (s.line n).state with
    | waiting | hold =>
      rw [stepsSixSeven_of_legal (by simp [legal, hst])]
      exact joinGroup_eq ..
    | _ => exact (stepsSixSeven_of_illegal (by simp [legal, hst])).symm

theorem decide_hold : decideOp .hold (.desk d) line [] s = checked .hold d line [] s fun n =>
    placed n (if (s.line n).state = .waiting then { s.line n with state := .hold } else leaving (s.line n) .hold)
      s.lines.queues [] s :=
  lineCommand_congr fun n h => by
    have hdest := destOf_of_refusalAt (by simp) (by simp) h
    beta_reduce
    cases hst : (s.line n).state with
    | waiting =>
      rw [stepsSixSeven_of_room (by simp [legal, hst]) rfl, if_pos rfl]
      exact taken_commit rfl
    | screen p =>
      cases p with
      | steady =>
        rw [stepsSixSeven_of_room (by simp [legal, hst]) rfl, if_neg (by simp)]
        exact taken_commit (startLeave_eq ..)
      | leaving t => exact absurd hdest (by simp [hst, destOf])
    | _ => exact (stepsSixSeven_of_illegal (by simp [legal, hst])).symm

theorem decide_recall : decideOp .recall (.desk d) line [] s = checked .recall d line [] s fun n =>
    placed n { s.line n with state := .screen .steady } (without n s.lines.queues) [] s :=
  lineCommand_congr fun n _ => by
    cases hst : (s.line n).state with
    | queued x =>
      simp only [senderStudio, studioOfDesk_isSome]
      by_cases hd : d = 2
      · rw [stepsSixSeven_of_legal (by simp [legal, hst, hd]), if_neg (by simp [hd])]
        exact joinFromQueue_eq ..
      · rw [stepsSixSeven_of_illegal (by simp [legal, hst, hd]), if_pos (by simp [hd])]
    | _ => exact (stepsSixSeven_of_illegal (by simp [legal, hst])).symm

/-- The studio a studio byte names. -/
theorem studioOfByte_named {b : Byte} (h : b.toNat ≤ 1) : studioOfByte b = some (namedStudio [b]) := by
  have hb : b = 0 ∨ b = 1 := by bv_omega
  rcases hb with rfl | rfl <;> rfl

variable {b : Byte} (hb : b.toNat ≤ 1)
include hb

theorem decide_queue : decideOp .queue (.desk d) line [b] s = checked .queue d line [b] s fun n =>
    match (s.line n).state with
    | .screen _ => queued n (leaving (s.line n) (.queued (namedStudio [b]))) (namedStudio [b]) true s.lines.queues s
    | .queued _ =>
      queued n { s.line n with state := .queued (namedStudio [b]) } (namedStudio [b]) false (without n s.lines.queues) s
    | _ => queued n { s.line n with state := .queued (namedStudio [b]) } (namedStudio [b]) false s.lines.queues s := by
  simp only [decideOp, decideQueue, List.head?_cons, Option.bind_some, studioOfByte_named hb]
  refine lineCommand_congr fun n h => ?_
  have hdest := destOf_of_refusalAt (by simp) (by simp) h
  have htail (r : LineRec) (arriving : Bool) (t : LineTable)
      (ht : t = put n r (atTail (namedStudio [b]) ⟨n, arriving⟩ s.lines.queues) s.lines) :
      (if queueHasRoom s.lines (namedStudio [b]) then
        taken (positionData n (namedStudio [b]) (commit t s)) (commit t s) else refuse .full s) =
      if queueHasRoom s.lines (namedStudio [b]) = false then refuse .full s
        else queued n r (namedStudio [b]) arriving s.lines.queues s := by
    rw [ht, commit_eq_lineStep]
    cases queueHasRoom s.lines (namedStudio [b]) <;> rfl
  beta_reduce
  cases hst : (s.line n).state with
  | waiting | hold =>
    rw [stepsSixSeven_of_legal (by simp [legal, hst])]
    simp only [room, hst]
    exact htail _ _ _ (setRec_addEntry ..)
  | screen p =>
    cases p with
    | steady =>
      rw [stepsSixSeven_of_legal (by simp [legal, hst])]
      simp only [room, hst]
      exact htail _ _ _ (by rw [startLeave_eq]; exact setRec_addEntry ..)
    | leaving t => exact absurd hdest (by simp [hst, destOf])
  | queued y =>
    simp only [senderStudio, studioOfDesk_isSome]
    by_cases hd : d = 2
    · rw [stepsSixSeven_of_legal (by simp [legal, hst, hd]), if_neg (by simp [hd])]
      simp only [room, hst]
      exact moveToTail_eq ..
    · rw [stepsSixSeven_of_illegal (by simp [legal, hst, hd]), if_pos (by simp [hd])]
  | _ => exact (stepsSixSeven_of_illegal (by simp [legal, hst])).symm

theorem decide_give : decideOp .give (.desk d) line [b] s = checked .give d line [b] s fun n =>
    queued n { s.line n with state := .queued (namedStudio [b]) } (namedStudio [b]) false (without n s.lines.queues)
      s := by
  simp only [decideOp, decideGive, List.head?_cons, Option.bind_some, studioOfByte_named hb]
  refine lineCommand_congr fun n h => ?_
  cases hst : (s.line n).state with
  | queued y =>
    simp only [senderStudio, studioOfDesk_isSome]
    by_cases hd : d = 2
    · rw [stepsSixSeven_of_illegal (by simp [legal, hst, hd]), if_neg (by simp [hd])]
    · rw [stepsSixSeven_of_legal (by simp [legal, hst, hd]), if_pos (by simp [hd])]
      simp only [room, hst]
      exact moveToTail_eq ..
  | _ => exact (stepsSixSeven_of_illegal (by simp [legal, hst])).symm

end Screening

/-! ### PROMOTE and DROP -/

/-- The queues with line n's entry at the head of the queue its line is in (R40). -/
def promoted (n : Line) (st : LineState) (q : PerStudio (List Entry)) : PerStudio (List Entry) :=
  match st with
  | .queued x => onQueue x (fun l => l.filter (fun e => e.line == n) ++ l.filter (fun e => e.line != n)) q
  | _ => q

theorem put_self (n : Line) (q : PerStudio (List Entry)) (lt : LineTable) :
    put n lt.recs[n] q lt = { lt with queues := q } := by
  simp [put]

theorem promoteEntry_eq (x : Studio) (n : Line) (lt : LineTable) :
    promoteEntry x n lt = put n lt.recs[n] (promoted n (.queued x) lt.queues) lt := by
  rw [put_self]
  cases x <;> rfl

/-- DROP's effect by the phase of the line's state (R42, R43, R67). -/
def dropped (n : Line) (s : State) : Decision :=
  match phaseOf (s.line n).state with
  | none => placed n { s.line n with state := .clearing 0 } (without n s.lines.queues) [] s
  | some .steady => placed n (leaving (s.line n) .clearing) s.lines.queues [] s
  | some (.leaving _) =>
    placed n { leaving (s.line n) .clearing with tag := (s.line n).tag } (without n s.lines.queues) [] s

/-- The destination is the phase's (R2). -/
theorem destOf_of_phaseOf {st : LineState} {p : Phase} (h : phaseOf st = some p) :
    destOf st = destOf (.screen p) := by
  cases st with
  | screen q | air _ q | priv _ q =>
    obtain rfl : q = p := Option.some.inj h
    cases q <;> rfl
  | _ => exact absurd h (by simp [phaseOf])

theorem leaving_state (r : LineRec) (t : Dest) : (leaving r t).state = withPhase (.leaving t) r.state := by
  simp only [leaving]
  cases r.state <;> rfl

/-- A member's DROP by its phase. -/
theorem dropMember_eq {n : Line} {s : State} {p : Phase} (hp : phaseOf (s.line n).state = some p) :
    dropMember n s = dropped n s := by
  rw [dropped, hp, dropMember]
  cases p with
  | steady =>
    rw [destOf_of_phaseOf hp]
    exact taken_commit (startLeave_eq ..)
  | leaving t =>
    rw [destOf_of_phaseOf hp]
    refine taken_commit ?_
    rw [← leaving_state]
    exact put_eq_dropEntry ..

section NoArguments

variable (d : Desk) (line : Byte) (s : State)

theorem decide_promote : decideOp .promote (.desk d) line [] s = checked .promote d line [] s fun n =>
    placed n (s.line n) (promoted n (s.line n).state s.lines.queues) [1] s :=
  lineCommand_congr fun n _ => by
    beta_reduce
    cases hst : (s.line n).state with
    | queued x =>
      rw [stepsSixSeven_of_room (by simp [legal, hst]) rfl]
      exact taken_commit (promoteEntry_eq ..)
    | _ => exact (stepsSixSeven_of_illegal (by simp [legal, hst])).symm

theorem decide_drop : decideOp .drop (.desk d) line [] s = checked .drop d line [] s fun n => dropped n s :=
  lineCommand_congr fun n _ => by
    have hclear (hp : phaseOf (s.line n).state = none) :
        taken [] (commit (enterClearing n s.lines) s) = dropped n s := by
      rw [dropped, hp]
      exact taken_commit (put_eq_dropEntry ..)
    cases hst : (s.line n).state with
    | waiting | hold | queued =>
      rw [stepsSixSeven_of_room (by simp [legal, hst]) rfl]
      exact hclear (by rw [hst]; rfl)
    | screen p | air _ p | priv _ p =>
      rw [stepsSixSeven_of_room (by simp [legal, hst]) rfl]
      exact dropMember_eq (p := p) (by rw [hst]; rfl)
    | _ => exact (stepsSixSeven_of_illegal (by simp [legal, hst])).symm

/-! ### TAKE, PRIVATE and PARK -/

/-- The screen desk's TAKE, PRIVATE and PARK are legal in no state (R54). -/
theorem legal_screenDesk {op : Op} (ho : op = .take ∨ op = .privateTalk ∨ op = .park) (r : LineRec) :
    legal op 2 r = false := by
  have h2 (x : Studio) : ((2 : Desk) == deskOf x) = false := by cases x <;> rfl
  rcases ho with rfl | rfl | rfl
  all_goals
    cases hst : r.state with
    | screen p | air _ p | priv _ p => cases p <;> simp [legal, hst, h2]
    | _ => simp [legal, hst, h2]

theorem deskOf_beq_own {d : Desk} (hd : d ≠ 2) (x : Studio) : (d == deskOf x) = decide (x = ownStudio d) := by
  rw [deskOf_beq]
  simp [hd]

/-- A command legal in one studio alone: steps 6 and 7 with the studio's own test made by the command (R54). -/
theorem ownStudio_steps {op : Op} {args : List Byte} {n : Line} {x y : Studio} {effect effect' : Decision}
    (hl : legal op d (s.line n) = decide (y = x))
    (he : y = x → effect = if room op d args (s.line n) s.lines = false then refuse .full s else effect') :
    (if y = x then effect else refuse .wrongState s) = stepsSixSeven op d args n s effect' := by
  by_cases h : y = x
  · rw [if_pos h, stepsSixSeven_of_legal (by rw [hl, decide_eq_true h]), he h]
  · rw [if_neg h, stepsSixSeven_of_illegal (by rw [hl, decide_eq_false h])]

theorem groupHasRoom_air (lt : LineTable) (x : Studio) :
    groupHasRoom lt (.air x) = decide (occupied lt (.air x) < 6) := rfl

/-- TAKE's effect in studio x by the line's state (R55 to R57, R66). -/
def takenToAir (x : Studio) (n : Line) (s : State) : Decision :=
  match (s.line n).state with
  | .queued _ => placed n { s.line n with state := .air x .steady } (without n s.lines.queues) [lineByte n] s
  | .priv _ _ => placed n (leaving (s.line n) (.air x)) s.lines.queues [lineByte n] s
  | .air _ _ => placed n { s.line n with state := .air x .steady } (without n s.lines.queues) [lineByte n] s
  | _ => placed n { s.line n with state := .air x .steady } s.lines.queues [lineByte n] s

/-- TAKE past the rights, for a studio desk: steps 6 and 7, then its effect. -/
theorem takeLine_eq {d : Desk} (hd : d ≠ 2) {args : List Byte} {n : Line} {s : State}
    (hp : passesFive .take (s.line n).state = true) :
    takeLine (ownStudio d) n s = stepsSixSeven .take d args n s (takenToAir (ownStudio d) n s) := by
  unfold takeLine takenToAir
  cases hst : (s.line n).state with
  | queued y =>
    refine ownStudio_steps d s (by simp [legal, hst, deskOf_beq_own hd]) fun _ => ?_
    simp only [room, hst]
    exact joinFromQueue_eq ..
  | hold =>
    refine ownStudio_steps d s (by simp [legal, hst, deskOf_beq_own hd]) fun _ => ?_
    simp only [room, hst]
    exact joinGroup_eq ..
  | priv y p =>
    cases p with
    | steady =>
      refine ownStudio_steps d s (by simp [legal, hst, deskOf_beq_own hd]) fun _ => ?_
      simp only [room, hst]
      exact leaveInto_eq ..
    | leaving t => exact absurd hp (by simp [passesFive, hst])
  | air y p =>
    cases p with
    | steady => exact (stepsSixSeven_of_illegal (by simp [legal, hst])).symm
    | leaving t =>
      refine ownStudio_steps d s (by simp [legal, hst, deskOf_beq_own hd]) fun _ => ?_
      simp only [room, hst]
      exact taken_commit (put_eq_dropEntry ..)
  | _ => exact (stepsSixSeven_of_illegal (by simp [legal, hst])).symm

theorem decide_take : decideOp .take (.desk d) line [] s = checked .take d line [] s fun n =>
    takenToAir (ownStudio d) n s :=
  lineCommand_congr fun n h => by
    by_cases hd : d = 2
    · subst hd
      exact (stepsSixSeven_of_illegal (legal_screenDesk (by simp) _)).symm
    · simp only [senderStudio, studioOfDesk_of_ne hd]
      exact takeLine_eq hd (passed_of_refusalAt h).2.2

theorem decide_private : decideOp .privateTalk (.desk d) line [] s = checked .privateTalk d line [] s fun n =>
    match (s.line n).state with
    | .queued _ => placed n { s.line n with state := .priv (ownStudio d) .steady } (without n s.lines.queues) [] s
    | .air _ _ => placed n (leaving (s.line n) (.priv (ownStudio d))) s.lines.queues [] s
    | _ => placed n { s.line n with state := .priv (ownStudio d) .steady } s.lines.queues [] s :=
  lineCommand_congr fun n h => by
    have hdest := destOf_of_refusalAt (by simp) (by simp) h
    by_cases hd : d = 2
    · subst hd
      exact (stepsSixSeven_of_illegal (legal_screenDesk (by simp) _)).symm
    · simp only [senderStudio, studioOfDesk_of_ne hd]
      cases hst : (s.line n).state with
      | queued y =>
        refine ownStudio_steps d s (by simp [legal, hst, deskOf_beq_own hd]) fun _ => ?_
        simp only [room]
        exact joinFromQueue_eq ..
      | hold =>
        refine ownStudio_steps d s (by simp [legal, hst, deskOf_beq_own hd]) fun _ => ?_
        simp only [room]
        exact joinGroup_eq ..
      | air y p =>
        cases p with
        | steady =>
          refine ownStudio_steps d s (by simp [legal, hst, deskOf_beq_own hd]) fun _ => ?_
          simp only [room]
          exact leaveInto_eq ..
        | leaving t => exact absurd hdest (by simp [hst, destOf])
      | _ => exact (stepsSixSeven_of_illegal (by simp [legal, hst])).symm

theorem decide_park : decideOp .park (.desk d) line [] s = checked .park d line [] s fun n =>
    placed n { leaving (s.line n) .hold with home := ownStudio d } s.lines.queues [] s :=
  lineCommand_congr fun n h => by
    have hdest := destOf_of_refusalAt (by simp) (by simp) h
    have hpark (x : Studio) :
        taken [] (parkLine x n s) = placed n { leaving (s.line n) .hold with home := x } s.lines.queues [] s := by
      rw [parkLine_eq, ← leaving_state]
      exact taken_commit rfl
    by_cases hd : d = 2
    · subst hd
      exact (stepsSixSeven_of_illegal (legal_screenDesk (by simp) _)).symm
    · simp only [senderStudio, studioOfDesk_of_ne hd]
      cases hst : (s.line n).state with
      | air y p | priv y p =>
        cases p with
        | steady =>
          exact ownStudio_steps d s (by simp [legal, hst, deskOf_beq_own hd]) fun _ => hpark _
        | leaving t => exact absurd hdest (by simp [hst, destOf])
      | _ => exact (stepsSixSeven_of_illegal (by simp [legal, hst])).symm

end NoArguments

/-! ### Settings -/

section Settings

variable (d : Desk) (line : Byte) (s : State)

/-- The settings commands that every state but FREE and CLEARING takes (R15). -/
theorem settingCommand_eq {op : Op} (ho : op = .setLevel ∨ op = .setReturn ∨ op = .setLabel ∨ op = .forcePath)
    (args : List Byte) (body : Line → Decision) :
    settingCommand op (.desk d) line s body = checked op d line args s body :=
  lineCommand_congr fun n h => by
    obtain ⟨hfree, -, -⟩ := passed_of_refusalAt h
    have hlegal : legal op d (s.line n) = !isClearing (s.line n).state := by
      rcases ho with rfl | rfl | rfl | rfl
      all_goals
        cases hst : (s.line n).state with
        | free => exact absurd hst hfree
        | _ => simp [legal, hst, isClearing]
    have hroom : room op d args (s.line n) s.lines = true := by
      rcases ho with rfl | rfl | rfl | rfl <;> rfl
    cases hc : isClearing (s.line n).state with
    | true => exact (stepsSixSeven_of_illegal (by rw [hlegal, hc]; rfl)).symm
    | false => exact (stepsSixSeven_of_room (by rw [hlegal, hc]; rfl) hroom).symm

theorem decide_setLevel (hi lo : Byte) : decideOp .setLevel (.desk d) line [hi, lo] s =
    checked .setLevel d line [hi, lo] s fun n =>
      takenClamped (clampGain (wordOf hi lo) != wordOf hi lo) (bytes2 (clampGain (wordOf hi lo)))
        (lineStep (put n { s.line n with level := clampGain (wordOf hi lo) } s.lines.queues s.lines) s) := by
  refine (settingCommand_eq d line s (by simp) [hi, lo] _).trans ?_
  simp only [commit_eq_lineStep, put_eq]

theorem decide_setReturn (hi lo : Byte) : decideOp .setReturn (.desk d) line [hi, lo] s =
    checked .setReturn d line [hi, lo] s fun n =>
      takenClamped (clampGain (wordOf hi lo) != wordOf hi lo) (bytes2 (clampGain (wordOf hi lo)))
        (lineStep (put n { s.line n with ret := clampGain (wordOf hi lo) } s.lines.queues s.lines) s) := by
  refine (settingCommand_eq d line s (by simp) [hi, lo] _).trans ?_
  simp only [commit_eq_lineStep, put_eq]

theorem decide_setLabel {text : List Byte} (ht : text.all printable = true) : decideOp .setLabel (.desk d) line text s =
    checked .setLabel d line text s fun n =>
      takenClamped (text.length != (text.take 24).length) [byteOf (text.take 24).length]
        (lineStep (put n { s.line n with label := text.take 24 } s.lines.queues s.lines) s) := by
  have hunfold : decideOp .setLabel (.desk d) line text s = settingCommand .setLabel (.desk d) line s fun n =>
      takenClamped (text.length != (text.take 24).length) [byteOf (text.take 24).length]
        (commit (setRec n { s.line n with label := text.take 24 } s.lines) s) := if_pos ht
  rw [hunfold]
  refine (settingCommand_eq d line s (by simp) text _).trans ?_
  simp only [commit_eq_lineStep, put_eq]

theorem decide_setHome {b : Byte} (hb : b.toNat ≤ 1) : decideOp .setHome (.desk d) line [b] s =
    checked .setHome d line [b] s fun n =>
      placed n { s.line n with home := namedStudio [b] } s.lines.queues [] s := by
  simp only [decideOp, decideSetHome, List.head?_cons, Option.bind_some, studioOfByte_named hb]
  refine lineCommand_congr fun n _ => ?_
  have hhome : taken [] (commit (setRec n { s.line n with home := namedStudio [b] } s.lines) s) =
      placed n { s.line n with home := namedStudio [b] } s.lines.queues [] s := taken_commit rfl
  cases hst : (s.line n).state with
  | waiting | hold =>
    rw [stepsSixSeven_of_room (by simp [legal, hst]) rfl]
    simp only [hst] at hhome ⊢
    exact hhome
  | _ => exact (stepsSixSeven_of_illegal (by simp [legal, hst])).symm

theorem decide_forcePath {b : Byte} {m : PathMode} (hm : modeOfByte b = some m) :
    decideOp .forcePath (.desk d) line [b] s = checked .forcePath d line [b] s fun n =>
      if m = .alternate ∧ s.maps.input[alternateRole n] = none then refuse .wrongState s
      else taken [modeByte m] (setPath n (takeMode m s.paths[n]) s) := by
  simp only [decideOp, decideForcePath, List.head?_cons, Option.bind_some, hm]
  exact settingCommand_eq d line s (by simp) [b] _

end Settings

/-! ### Arguments and refusals -/

theorem length_one {l : List Byte} (h : (l.length == 1) = true) : ∃ b, l = [b] :=
  List.length_eq_one_iff.1 (eq_of_beq h)

theorem length_two {l : List Byte} (h : (l.length == 2) = true) : ∃ b c, l = [b, c] :=
  List.length_eq_two.1 (eq_of_beq h)

theorem length_zero {l : List Byte} (h : (l.length == 0) = true) : l = [] :=
  List.length_eq_zero_iff.1 (eq_of_beq h)

theorem studioOfByte_eq_none {b : Byte} (h : ¬b.toNat ≤ 1) : studioOfByte b = none := by
  unfold studioOfByte
  split
  · next e => omega
  · next e => omega
  · rfl

theorem modeOfByte_eq_none {b : Byte} (h : ¬b.toNat ≤ 2) : modeOfByte b = none := by
  unfold modeOfByte
  split
  · next e => omega
  · next e => omega
  · next e => omega
  · rfl

theorem modeOfByte_of_le {b : Byte} (h : b.toNat ≤ 2) : ∃ m, modeOfByte b = some m := by
  have hb : b = 0 ∨ b = 1 ∨ b = 2 := by bv_omega
  rcases hb with rfl | rfl | rfl <;> exact ⟨_, rfl⟩

/-- What a line command is, by its arguments: the check order with some effect when they lie in their domains, and refused
BAD-VALUE otherwise (R12, R13). -/
def CheckedOrBad (op : Op) (d : Desk) (line : Byte) (args : List Byte) (s : State) : Prop :=
  (argsInDomain op args = true ∧ ∃ effect, decideOp op (.desk d) line args s = checked op d line args s effect) ∨
  (argsInDomain op args = false ∧ decideOp op (.desk d) line args s = refuse .badValue s)

/-- A command with one argument byte of a domain. -/
theorem checkedOrBad_of_byte {op : Op} {d : Desk} {line b : Byte} {s : State} {limit : Nat} {effect : Line → Decision}
    (hdom : argsInDomain op [b] = decide (b.toNat ≤ limit))
    (hgood : b.toNat ≤ limit → decideOp op (.desk d) line [b] s = checked op d line [b] s effect)
    (hbad : ¬b.toNat ≤ limit → decideOp op (.desk d) line [b] s = refuse .badValue s) :
    CheckedOrBad op d line [b] s := by
  by_cases hb : b.toNat ≤ limit
  · exact .inl ⟨by rw [hdom, decide_eq_true hb], _, hgood hb⟩
  · exact .inr ⟨by rw [hdom, decide_eq_false hb], hbad hb⟩

theorem lineOp_checkedOrBad {op : Op} (ho : op ∈ lineOps) (d : Desk) (line : Byte) {args : List Byte} (s : State)
    (hc : argCountFits op args.length = true) : CheckedOrBad op d line args s := by
  have hnone (h : args = []) (hdom : argsInDomain op [] = true) {effect : Line → Decision}
      (he : decideOp op (.desk d) line [] s = checked op d line [] s effect) : CheckedOrBad op d line args s := by
    subst h
    exact .inl ⟨hdom, _, he⟩
  cases op with
  | answer => exact hnone (length_zero hc) rfl (decide_answer d line s)
  | hold => exact hnone (length_zero hc) rfl (decide_hold d line s)
  | promote => exact hnone (length_zero hc) rfl (decide_promote d line s)
  | take => exact hnone (length_zero hc) rfl (decide_take d line s)
  | privateTalk => exact hnone (length_zero hc) rfl (decide_private d line s)
  | park => exact hnone (length_zero hc) rfl (decide_park d line s)
  | drop => exact hnone (length_zero hc) rfl (decide_drop d line s)
  | queue =>
    obtain ⟨b, rfl⟩ := length_one hc
    refine checkedOrBad_of_byte (limit := 1) (by simp [argsInDomain, argCountFits]) (decide_queue d line s) fun hb => ?_
    simp only [decideOp, decideQueue, List.head?_cons, Option.bind_some, studioOfByte_eq_none hb]
  | give =>
    obtain ⟨b, rfl⟩ := length_one hc
    refine checkedOrBad_of_byte (limit := 1) (by simp [argsInDomain, argCountFits]) (decide_give d line s) fun hb => ?_
    simp only [decideOp, decideGive, List.head?_cons, Option.bind_some, studioOfByte_eq_none hb]
  | setHome =>
    obtain ⟨b, rfl⟩ := length_one hc
    refine checkedOrBad_of_byte (limit := 1) (by simp [argsInDomain, argCountFits]) (decide_setHome d line s)
      fun hb => ?_
    simp only [decideOp, decideSetHome, List.head?_cons, Option.bind_some, studioOfByte_eq_none hb]
  | forcePath =>
    obtain ⟨b, rfl⟩ := length_one hc
    have hdom : argsInDomain .forcePath [b] = decide (b.toNat ≤ 2) := by simp [argsInDomain, argCountFits]
    by_cases hb : b.toNat ≤ 2
    · obtain ⟨m, hm⟩ := modeOfByte_of_le hb
      exact .inl ⟨by rw [hdom, decide_eq_true hb], _, decide_forcePath d line s hm⟩
    · refine .inr ⟨by rw [hdom, decide_eq_false hb], ?_⟩
      simp only [decideOp, decideForcePath, List.head?_cons, Option.bind_some, modeOfByte_eq_none hb]
  | setLevel =>
    obtain ⟨hi, lo, rfl⟩ := length_two hc
    exact .inl ⟨rfl, _, decide_setLevel d line s hi lo⟩
  | setReturn =>
    obtain ⟨hi, lo, rfl⟩ := length_two hc
    exact .inl ⟨rfl, _, decide_setReturn d line s hi lo⟩
  | setLabel =>
    have hdom : argsInDomain .setLabel args = args.all printable := by
      rw [argsInDomain, hc, Bool.true_and]
      rfl
    by_cases hp : args.all printable = true
    · exact .inl ⟨hdom.trans hp, _, decide_setLabel d line s hp⟩
    · exact .inr ⟨hdom.trans (Bool.eq_false_of_not_eq_true hp), if_neg hp⟩
  | nop | takeNext | talkOn | talkOff | setConf | setCtxGain | setDuck | setTalkGain | readLine | readStudio | readMeters
  | linkStatus | setMask | mapInput | mapOutput | setPathTiming | setStemTiming | setClock | setTalkTimeout | loadConfig =>
    exact absurd ho (by decide)
  -- RECALL; its constructor's name is a reserved word of Mathlib.
  | _ => exact hnone (length_zero hc) rfl (decide_recall d line s)

theorem owner_of_lineOp {op : Op} (ho : op ∈ lineOps) : ownerOf op ≠ .controller := by
  revert op
  decide

/-- Settles O20: the line commands share one check order, and none of them acts before its last check. -/
theorem lineCommandRefusalsInOrder : Obligations.LineCommandRefusalsInOrder := by
  unfold Obligations.LineCommandRefusalsInOrder
  intro op d line args s r ho hw hc hr
  rw [exec_decided (owner_of_lineOp ho) hw, ← decided_refuse]
  refine congrArg (fun x => Host.Outcome.next (decided d op line x)) ?_
  rcases lineOp_checkedOrBad ho d line s hc with ⟨hd, effect, he⟩ | ⟨hd, he⟩
  · rw [he, checked_of_firstRefusal hd hr]
  · rw [firstRefusal, if_pos hd] at hr
    obtain rfl := Option.some.inj hr
    exact he

/-! ### Taken line commands -/

/-- The row of a command that fails no check is its effect, handed back (R13, R162). -/
theorem exec_accepted {op : Op} {d : Desk} {line : Byte} {args : List Byte} {n : Line} {s : State}
    {effect : Line → Decision} (ho : op ∈ lineOps) (ha : Accepted s d op line args n)
    (he : argsInDomain op args = true → decideOp op (.desk d) line args s = checked op d line args s effect) :
    exec (commandOf op .decided d line args) s = .next (decided d op line (effect n)) := by
  obtain ⟨hd, heff⟩ := checked_of_accepted (effect := effect) ha
  rw [exec_decided (owner_of_lineOp ho) ha.1, he hd, heff]

/-- Settles O22. -/
theorem answerRecallAndHoldAtTheScreen : Obligations.AnswerRecallAndHoldAtTheScreen := by
  unfold Obligations.AnswerRecallAndHoldAtTheScreen
  intro d line n s r joined held
  refine ⟨fun ha => ?_, fun ha => ?_, fun ha => ?_⟩
  · exact exec_accepted (by decide) ha fun _ => decide_answer d line s
  · exact exec_accepted (by decide) ha fun _ => decide_recall d line s
  · exact exec_accepted (by decide) ha fun _ => decide_hold d line s

/-- Settles O24. -/
theorem takeBringsToAir : Obligations.TakeBringsToAir := by
  unfold Obligations.TakeBringsToAir
  intro d line n s ha x r done
  refine (exec_accepted (by decide) ha fun _ => decide_take d line s).trans ?_
  simp only [takenToAir, r]
  cases (s.line n).state <;> rfl

/-- Settles O25. -/
theorem privateAndParkMoveTheLine : Obligations.PrivateAndParkMoveTheLine := by
  unfold Obligations.PrivateAndParkMoveTheLine
  intro d line n s x r
  refine ⟨fun ha => ?_, fun ha => ?_⟩
  · refine (exec_accepted (by decide) ha fun _ => decide_private d line s).trans ?_
    simp only [r]
    cases (s.line n).state <;> rfl
  · exact exec_accepted (by decide) ha fun _ => decide_park d line s

/-- Settles O26. -/
theorem dropSendsToClearing : Obligations.DropSendsToClearing := by
  unfold Obligations.DropSendsToClearing
  intro d line n s ha r gone
  refine (exec_accepted (by decide) ha fun _ => decide_drop d line s).trans ?_
  simp only [dropped, r]
  cases phaseOf (s.line n).state with
  | none => rfl
  | some p => cases p <;> rfl

theorem wordOf_eq (hi lo : Byte) : wordOf hi lo = hi.toNat * 256 + lo.toNat := rfl

theorem clampGain_eq (v : Nat) : clampGain v = min v 32767 := by
  unfold clampGain clampTo
  have : Config.maxGain = 32767 := rfl
  split
  · omega
  · split <;> omega

/-- The clamped flag of a carried gain (R22). -/
theorem clampedGain_eq (v : Nat) : (min v 32767 != v) = decide (32767 < v) := by
  by_cases h : 32767 < v
  · rw [decide_eq_true h, bne_iff_ne]
    omega
  · rw [decide_eq_false h, bne_eq_false_iff_eq]
    omega

/-- Settles O27. -/
theorem lineSettingsAreStored : Obligations.LineSettingsAreStored := by
  unfold Obligations.LineSettingsAreStored
  intro d line hi lo b text n s r carried v two stored
  refine ⟨fun ha => ?_, fun ha => ?_, fun ha => ?_, fun ha => ?_⟩
  · refine (exec_accepted (by decide) ha fun _ => decide_setLevel d line s hi lo).trans ?_
    simp only [clampGain_eq, wordOf_eq, clampedGain_eq]
    rfl
  · refine (exec_accepted (by decide) ha fun _ => decide_setReturn d line s hi lo).trans ?_
    simp only [clampGain_eq, wordOf_eq, clampedGain_eq]
    rfl
  · refine (exec_accepted (by decide) ha fun hd => decide_setLabel d line s ?_).trans ?_
    · rw [argsInDomain, Bool.and_eq_true] at hd
      exact hd.2
    · have hlen : (text.length != (text.take 24).length) = decide (24 < text.length) := by
        rw [List.length_take]
        by_cases h : 24 < text.length
        · rw [decide_eq_true h, bne_iff_ne]
          omega
        · rw [decide_eq_false h, bne_eq_false_iff_eq]
          omega
      rw [hlen, List.length_take, Nat.min_comm]
      rfl
  · refine (exec_accepted (by decide) ha fun hd => decide_setHome d line s ?_).trans rfl
    simpa [argsInDomain, argCountFits] using hd

end Sys2Proof.Proofs.LineOps
end

section
/-! PROOFS. The ready queues' commands and the Line Table's events: a position told in a reply is the entry's place (R36), the
head of a queue is taken as a TAKE of it (R58), and parties, fades and clearing move a line as they say (chapter 1). -/

namespace Sys2Proof.Proofs.Queues

open Sys2Proof Sys2Proof.Machine Sys2Proof.Claims Sys2Proof.Safety
open Sys2Proof.Proofs.Talk Sys2Proof.Proofs.Decisions Sys2Proof.Proofs.LineMoves Sys2Proof.Proofs.Owners
open Sys2Proof.Proofs.Checks Sys2Proof.Proofs.LineOps

/-! ### Places in a queue -/

theorem atTail_get (x : Studio) (e : Entry) (q : PerStudio (List Entry)) : (atTail x e q).get x = q.get x ++ [e] := by
  cases x <;> rfl

theorem without_get (n : Line) (q : PerStudio (List Entry)) (x : Studio) :
    (without n q).get x = (q.get x).filter (fun e => e.line != n) := by
  cases x <;> rfl

/-- A line has no entry in a list. -/
def NotIn (n : Line) (l : List Entry) : Prop := ∀ e ∈ l, e.line ≠ n

theorem notIn_of_filter {n : Line} {l : List Entry} (h : l.filter (fun e => e.line == n) = []) : NotIn n l :=
  fun e he hn => List.filter_eq_nil_iff.1 h e he (by simp [hn])

theorem notIn_without (n : Line) (q : PerStudio (List Entry)) (x : Studio) : NotIn n ((without n q).get x) := by
  intro e he
  rw [without_get] at he
  simpa using (List.mem_filter.1 he).2

theorem filter_of_notIn {n : Line} {l : List Entry} (h : NotIn n l) : l.filter (fun e => e.line != n) = l :=
  List.filter_eq_self.2 fun e he => by simp [h e he]

theorem positionIn_append {n : Line} {b : Bool} {l : List Entry} (h : NotIn n l) :
    positionIn n (l ++ [⟨n, b⟩]) = l.length + 1 := by
  have hl : l.findIdx? (fun e => e.line == n) = none := by
    rw [List.findIdx?_eq_none_iff]
    exact fun e he => by simp [h e he]
  rw [positionIn, List.findIdx?_append, hl]
  simp

/-- The reply of a line put at the tail of a queue it has no entry in (R36). -/
theorem queued_eq {n : Line} {r : LineRec} {x : Studio} {b : Bool} {q : PerStudio (List Entry)} {s : State}
    (h : NotIn n (q.get x)) :
    queued n r x b q s = placed n r (atTail x ⟨n, b⟩ q) [BitVec.ofNat 8 ((q.get x).length + 1)] s := by
  rw [queued, atTail_get, positionIn_append h]

/-- A line whose state has no due entry has none in either queue (R27). -/
theorem notIn_of_queueLaw {s : State} (hq : QueueLaw s.lines) {n : Line}
    (h : ∀ x, entriesDue (s.line n).state n x = []) (x : Studio) : NotIn n (s.lines.queues.get x) :=
  notIn_of_filter ((((queueLaw_iff _).1 hq x).1 n).trans (h x))

/-! ### QUEUE, GIVE and PROMOTE -/

/-- A command that is neither DROP nor TAKE is accepted on no LEAVING line (R14). -/
theorem destOf_of_accepted {op : Op} {d : Desk} {line : Byte} {args : List Byte} {n : Line} {s : State}
    (hd : op ≠ .drop) (ht : op ≠ .take) (h : Accepted s d op line args n) : destOf (s.line n).state = none := by
  obtain ⟨-, -, hnone, hl⟩ := h
  rw [firstRefusal] at hnone
  split at hnone
  · exact absurd hnone (by simp)
  · rw [hl] at hnone
    simp only at hnone
    split_ifs at hnone with h1 h2 h3 h4
    exact steady_of_passesFive hd ht (Bool.eq_true_of_not_eq_false h4)

theorem le_one_of_domain {op : Op} {b : Byte} (ho : op = .queue ∨ op = .give ∨ op = .setHome)
    (h : argsInDomain op [b] = true) : b.toNat ≤ 1 := by
  rcases ho with rfl | rfl | rfl <;> simpa [argsInDomain, argCountFits] using h

/-- Settles O23: the position told is the length of the queue before, since the line had no entry there. -/
theorem queueGiveAndPromoteOrderTheQueues : Obligations.QueueGiveAndPromoteOrderTheQueues := by
  unfold Obligations.QueueGiveAndPromoteOrderTheQueues
  intro d line b n y s hq x r ahead rest moved
  refine ⟨fun ha => ?_, fun ha => ?_, fun ha hst => ?_⟩
  · have hdest := destOf_of_accepted (by simp) (by simp) ha
    refine (exec_accepted (by decide) ha fun hd => decide_queue d line s (le_one_of_domain (.inl rfl) hd)).trans ?_
    simp only [r]
    cases hst : (s.line n).state with
    | queued z => simp only [queued_eq (notIn_without _ _ _)]; rfl
    | screen p =>
      cases p with
      | steady =>
        have hnot := notIn_of_queueLaw hq (n := n) (fun z => by rw [hst]; rfl) (namedStudio [b])
        simp only [queued_eq hnot]; rfl
      | leaving t => exact absurd hdest (by simp [hst, destOf])
    | _ =>
      have hnot := notIn_of_queueLaw hq (n := n) (fun z => by rw [hst]; rfl) (namedStudio [b])
      simp only [queued_eq hnot]; rfl
  · refine (exec_accepted (by decide) ha fun hd =>
      decide_give d line s (le_one_of_domain (.inr (.inl rfl)) hd)).trans ?_
    rw [queued_eq (notIn_without _ _ _)]
    rfl
  · refine (exec_accepted (by decide) ha fun _ => decide_promote d line s).trans ?_
    have hst' : (s.line n).state = .queued y := hst
    have hone : (s.lines.queues.get y).filter (fun e => e.line == n) = [⟨n, false⟩] := by
      refine (((queueLaw_iff _).1 hq y).1 n).trans ?_
      rw [line_state_eq hst']
      exact if_pos rfl
    have hpromoted : promoted n (s.line n).state s.lines.queues =
        onQueue y (fun q => ⟨n, false⟩ :: q.filter (fun e => e.line != n)) s.lines.queues := by
      rw [hst', promoted]
      cases y
      · exact congrArg (fun l => PerStudio.mk (l ++ _) _) hone
      · exact congrArg (fun l => PerStudio.mk _ (l ++ _)) hone
    rw [hpromoted]
    rfl

/-! ### TAKE-NEXT -/

/-- The head of a ready queue is QUEUED there, or leaving SCREEN for it (R27). -/
theorem head_state {s : State} (hq : QueueLaw s.lines) {x : Studio} {e : Entry} {rest : List Entry}
    (h : queueOf s.lines x = e :: rest) :
    NotIn e.line rest ∧
      ((e.arriving = false ∧ (s.line e.line).state = .queued x) ∨
       (e.arriving = true ∧ (s.line e.line).state = .screen (.leaving (.queued x)))) := by
  have hdue := ((queueLaw_iff _).1 hq x).1 e.line
  rw [h, List.filter_cons_of_pos (by simp)] at hdue
  have hdue' : e :: rest.filter (fun k => k.line == e.line) = entriesDue (s.line e.line).state e.line x := hdue
  unfold entriesDue at hdue'
  split at hdue'
  · next y hst =>
    split at hdue'
    · next hy =>
      subst hy
      obtain ⟨he, hr⟩ := List.cons.inj hdue'
      exact ⟨notIn_of_filter hr, .inl ⟨by rw [he], hst⟩⟩
    · exact absurd hdue' (by simp)
  · next y hst =>
    split at hdue'
    · next hy =>
      subst hy
      obtain ⟨he, hr⟩ := List.cons.inj hdue'
      exact ⟨notIn_of_filter hr, .inr ⟨by rw [he], hst⟩⟩
    · exact absurd hdue' (by simp)
  · exact absurd hdue' (by simp)

/-- The head taken off its queue is every entry of its line taken off (R29). -/
theorem without_head {s : State} (hq : QueueLaw s.lines) {x : Studio} {e : Entry} {rest : List Entry}
    (h : queueOf s.lines x = e :: rest) (hst : (s.line e.line).state = .queued x) :
    without e.line s.lines.queues = onQueue x (fun _ => rest) s.lines.queues := by
  obtain ⟨hrest, -⟩ := head_state hq h
  have hown : (queueOf s.lines x).filter (fun k => k.line != e.line) = rest := by
    rw [h, List.filter_cons_of_neg (by simp), filter_of_notIn hrest]
  have hother (y : Studio) (hy : x ≠ y) :
      (queueOf s.lines y).filter (fun k => k.line != e.line) = queueOf s.lines y := by
    refine filter_of_notIn (notIn_of_filter ((((queueLaw_iff _).1 hq y).1 e.line).trans ?_))
    rw [line_state_eq hst]
    exact if_neg hy
  cases x
  · exact congrArg₂ PerStudio.mk hown (hother .b (by simp))
  · exact congrArg₂ PerStudio.mk (hother .a (by simp)) hown

theorem refusalAt_head {d : Desk} {e : Entry} {s : State} {st : LineState}
    (hst : (s.line e.line).state = st) (hfree : st ≠ .free)
    (hrights : rightsOf s.lines.fallback d (s.line e.line) = true) :
    refusalAt .take (.desk d) e.line s =
      if equipped s e.line = false then some .notEquipped
      else if passesFive .take st = false then some .busy else none := by
  have hsend : maySend s.lines.fallback .take d (s.line e.line) = true := by simp [maySend, hrights]
  rw [refusalAt_desk, hst, if_neg hfree, hsend]
  rfl

/-- Settles O21: the head's state is QUEUED in that studio, or arriving in it, so a TAKE of it has the studio's rights. -/
theorem takeNextTakesTheHead : Obligations.TakeNextTakesTheHead := by
  unfold Obligations.TakeNextTakesTheHead
  intro d line s hw hq _ x
  rw [show exec (.takeNext .decided d line []) s = _ from exec_decided (op := .takeNext) (by decide) hw]
  refine congrArg Host.Outcome.next ?_
  by_cases hd : d = 2
  · subst hd
    rfl
  rw [if_neg hd]
  have hown : x = ownStudio d := rfl
  simp only [decideOp, decideTakeNext, studioOfDesk_of_ne hd, ← hown]
  cases hqueue : queueOf s.lines x with
  | nil => rfl
  | cons e rest =>
    simp only
    have hdesk : (d == deskOf x) = true := by rw [deskOf_beq_own hd, hown, decide_eq_true rfl]
    obtain ⟨-, ⟨harr, hst⟩ | ⟨harr, hst⟩⟩ := head_state hq hqueue
    · rw [refusalAt_head hst (by simp) (by simp [rightsOf, hst, hdesk]), harr]
      have hpass : passesFive .take (.queued x) = true := rfl
      rw [hpass]
      cases heq : equipped s e.line with
      | false => rfl
      | true =>
        simp only [Bool.true_eq_false, if_false, Bool.false_eq_true]
        have htake : takeLine x e.line s = joinFromQueue (.air x) (.air x .steady) e.line [lineByte e.line] s := by
          rw [takeLine, hst]
          exact if_pos rfl
        rw [htake, joinFromQueue_eq, groupHasRoom_air, without_head hq hqueue hst]
        by_cases hroom : occupied s.lines (.air x) < 6
        · rw [decide_eq_true hroom, if_neg (by simp), if_neg (by omega)]
          rfl
        · rw [decide_eq_false hroom, if_pos rfl, if_pos (by omega)]
          rfl
    · rw [refusalAt_head hst (by simp) (by simp [rightsOf, hst, hdesk]), harr]
      have hpass : passesFive .take (.screen (.leaving (.queued x))) = false := rfl
      rw [hpass]
      cases heq : equipped s e.line <;> rfl

/-! ### READ-LINE -/

/-- Settles O28: the data of R26, item by item. -/
theorem readLineShowsTheLine : Obligations.ReadLineShowsTheLine := by
  unfold Obligations.ReadLineShowsTheLine
  intro d line n s hw r two one position place clearing state data
  have hexec : exec (.readLine .decided d line []) s = _ := exec_decided (op := .readLine) (by decide) hw
  refine ⟨fun hl => ?_, fun hl => ?_⟩
  · have hpos (x : Studio) : positionIn n (queueOf s.lines x) = position x := by
      simp only [positionIn, position, queueOf]
      cases (s.lines.queues.get x).findIdx? (fun e => e.line == n) <;> rfl
    have hplace : queuePosition s n = place := by
      simp only [queuePosition, hpos]
      rfl
    have hclear : clearingBytes r.state = clearing.map (fun v => BitVec.ofNat 8 v) := by
      simp only [clearingBytes, clearing]
      cases r.state <;> rfl
    have hside : sideByte (s.paths[n]).active = BitVec.ofNat 8 (if (s.paths[n]).active = .primary then 0 else 1) := by
      cases (s.paths[n]).active <;> rfl
    have hdata : lineData s n = data := by
      simp only [lineData, hplace, data, state, List.map_append]
      rw [stateBytes_eq, hclear, studioByte_eq, boolByte_eq, deskOptByte_eq, hside, boolByte_eq]
      simp only [List.append_assoc]
      rfl
    rw [hexec]
    simp only [decideOp, decideReadLine, hl, hdata]
    rfl
  · rw [hexec]
    simp only [decideOp, decideReadLine, hl]
    rfl

/-! ### Parties, clearing, role loss and fades -/

/-- Settles O17. -/
theorem partyPresentMakesFreeLineWaiting : Obligations.PartyPresentMakesFreeLineWaiting := by
  unfold Obligations.PartyPresentMakesFreeLineWaiting
  intro n s u
  have hstep : exec (.partyPresent n) s = .next (if isFree (s.line n).state then
      commit (setState n .waiting s.lines) u else u) := rfl
  simp only [hstep, isFree_iff, commit_eq_lineStep]
  rfl

theorem tickClearing_eq (r : LineRec) : tickClearing r = match r.state with
    | .clearing c => { r with state := .clearing (if c < 2000 then c + 1 else c) }
    | _ => r := by
  unfold tickClearing
  cases r.state <;> rfl

/-- Settles O18. -/
theorem lineIsFreedAtOnce : Obligations.LineIsFreedAtOnce := by
  unfold Obligations.LineIsFreedAtOnce
  intro n roles s u freed
  refine ⟨?_, ?_, ?_, ?_⟩
  · have hstep : exec (.partyGone n) s = .next (if isFree (s.line n).state then u
        else commit (freeLine n s.lines) u) := rfl
    simp only [hstep, isFree_iff, commit_eq_lineStep]
    rfl
  · change execPrimaryRoleLoss roles s = _
    unfold execPrimaryRoleLoss
    split
    · rw [commit_eq_lineStep]
      simp only [freeLines, losesPrimary_eq]
      rfl
    · rfl
  · change execClearingTimeout n s = _
    simp only [execClearingTimeout, commit_eq_lineStep]
    cases (s.line n).state <;> rfl
  · change Host.Outcome.next _ = _
    simp only [tickClearing_eq]
    rfl

theorem confirmEntry_eq (x : Studio) (n : Line) (lt : LineTable) : (confirmEntry x n lt).queues =
    onQueue x (fun q => q.map (fun e => if e.line = n then ⟨n, false⟩ else e)) lt.queues := by
  have hmap (q : List Entry) : q.map (fun e => if e.line = n then { e with arriving := false } else e) =
      q.map (fun e => if e.line = n then ⟨n, false⟩ else e) :=
    List.map_congr_left fun e _ => by
      split
      · next h => rw [h]
      · rfl
  cases x
  · exact congrArg (fun q => PerStudio.mk q lt.queues.b) (hmap lt.queues.a)
  · exact congrArg (fun q => PerStudio.mk lt.queues.a q) (hmap lt.queues.b)

theorem setState_confirmEntry (n : Line) (x : Studio) (lt : LineTable) :
    setState n (.queued x) (confirmEntry x n lt) =
      put n { lt.recs[n] with state := .queued x }
        (onQueue x (fun q => q.map (fun e => if e.line = n then ⟨n, false⟩ else e)) lt.queues) lt := by
  rw [← confirmEntry_eq]
  rfl

/-- Settles O19. -/
theorem fadeCompletionEntersDestination : Obligations.FadeCompletionEntersDestination := by
  unfold Obligations.FadeCompletionEntersDestination
  intro n tag s u becomes
  change execFadeComplete n tag s = _
  have hdest : execFadeComplete n tag s = match destOf (s.line n).state with
      | some t => .next (if (s.line n).tag = tag then commit (enterDest n t s.lines) u else u)
      | none => .next u := rfl
  rw [hdest]
  by_cases ht : (s.line n).tag = tag
  · rw [if_neg (not_not.2 ht)]
    cases hst : destOf (s.line n).state with
    | none => rfl
    | some t =>
      simp only [if_pos ht, commit_eq_lineStep]
      cases t with
      | queued x =>
        simp only [enterDest, setState_confirmEntry]
        rfl
      | _ => rfl
  · rw [if_pos ht]
    cases destOf (s.line n).state with
    | none => rfl
    | some t => simp only [if_neg ht]

end Sys2Proof.Proofs.Queues
end

section
/-! PROOFS. The settings of paths, talk and contexts: an argument outside its values is refused, a number is clamped into its
range, and the named setting alone takes the value (chapters 5 to 7). -/

namespace Sys2Proof.Proofs.Settings

open Sys2Proof Sys2Proof.Machine Sys2Proof.Claims
open Sys2Proof.Proofs.Talk Sys2Proof.Proofs.Decisions Sys2Proof.Proofs.Links Sys2Proof.Proofs.Owners
open Sys2Proof.Proofs.Blocks Sys2Proof.Proofs.Checks Sys2Proof.Proofs.LineOps

/-! ### Decisions handed back -/

theorem decided_ite (d : Desk) (op : Op) (line : Byte) (c : Prop) [Decidable c] (x y : Decision) :
    decided d op line (if c then x else y) = if c then decided d op line x else decided d op line y :=
  apply_ite (decided d op line) c x y

@[simp] theorem decided_takenClamped (d : Desk) (op : Op) (line : Byte) (clamped : Bool) (data : List Byte) (s : State) :
    decided d op line (takenClamped clamped data s) = answered d op line .done clamped data s := rfl

/-! ### Argument bytes -/

theorem byte_cases_two {b : Byte} (h : ¬1 < b.toNat) : b = 0 ∨ b = 1 := by bv_omega

theorem byte_cases_three {b : Byte} (h : ¬2 < b.toNat) : b = 0 ∨ b = 1 ∨ b = 2 := by bv_omega

theorem switchOfByte_eq (b : Byte) : switchOfByte b = if 1 < b.toNat then none else some (decide (b = 1)) := by
  by_cases h : 1 < b.toNat
  · rw [if_pos h]
    unfold switchOfByte
    split
    · omega
    · omega
    · rfl
  · rw [if_neg h]
    rcases byte_cases_two h with rfl | rfl <;> rfl

theorem boolByte_switch {b : Byte} (h : ¬1 < b.toNat) : boolByte (decide (b = 1)) = b := by
  rcases byte_cases_two h with rfl | rfl <;> rfl

/-- The mode a mode byte names (R144). -/
def namedMode (b : Byte) : PathMode := if b = 0 then .auto else if b = 1 then .primary else .alternate

theorem modeOfByte_named {b : Byte} (h : ¬2 < b.toNat) : modeOfByte b = some (namedMode b) ∧ modeByte (namedMode b) = b := by
  rcases byte_cases_three h with rfl | rfl | rfl <;> exact ⟨rfl, rfl⟩

theorem deskOfByte_eq_none {b : Byte} (h : 2 < b.toNat) : deskOfByte b = none := dif_neg (by omega)

theorem deskOfByte_eq {b : Byte} (h : ¬2 < b.toNat) : deskOfByte b = some ⟨b.toNat, by omega⟩ := dif_pos (by omega)

theorem contextOfByte_eq_none {b : Byte} (h : 2 < b.toNat) : contextOfByte b = none := by
  unfold contextOfByte
  split
  · omega
  · omega
  · omega
  · rfl

/-- The context a byte 0 to 2 names. -/
theorem contextOfByte_isSome {b : Byte} (h : ¬2 < b.toNat) : ∃ c, contextOfByte b = some c := by
  rcases byte_cases_three h with rfl | rfl | rfl <;> exact ⟨_, rfl⟩

/-! ### Clamping -/

theorem clampFail_eq (v : Nat) : clampFail v = max 1 (min 64 v) := by
  unfold clampFail clampTo
  split
  · omega
  · split <;> omega

theorem clampRevert_eq (v : Nat) : clampRevert v = max 1 (min 60000 v) := by
  unfold clampRevert clampTo
  split
  · omega
  · split <;> omega

theorem clampDuck_eq (v : Nat) : clampDuck v = min v 4 := by
  unfold clampDuck clampTo
  split
  · omega
  · split <;> omega

theorem clampedDuck_eq (v : Nat) : (min v 4 != v) = decide (4 < v) := by
  by_cases h : 4 < v
  · rw [decide_eq_true h, bne_iff_ne]
    omega
  · rw [decide_eq_false h, bne_eq_false_iff_eq]
    omega

theorem bne_or_bne (a b c d : Nat) : (a != b || c != d) = decide (a ≠ b ∨ c ≠ d) := by
  simp only [bne, Bool.decide_or, decide_not]
  rfl

/-! ### Path settings -/

theorem byte_of_forcePath {b : Byte} (h : argsInDomain .forcePath [b] = true) : ¬2 < b.toNat := by
  have : b.toNat ≤ 2 := by simpa [argsInDomain, argCountFits] using h
  omega

/-- Settles O29. -/
theorem pathSettingsAreStored : Obligations.PathSettingsAreStored := by
  unfold Obligations.PathSettingsAreStored
  intro d line b fail hi lo auto n s m p p' f r
  refine ⟨fun ha => ?_, fun hw => ?_⟩
  · obtain ⟨hdom, -⟩ := checked_of_accepted (effect := fun _ => refuse .done s) ha
    obtain ⟨hm, hbyte⟩ := modeOfByte_named (byte_of_forcePath hdom)
    refine (exec_accepted (by decide) ha fun _ => decide_forcePath d line s hm).trans ?_
    rw [decided_ite, hbyte]
    rfl
  · rw [show exec (.setPathTiming .decided d line [fail, hi, lo, auto]) s = _ from
      exec_decided (op := .setPathTiming) (by decide) hw]
    refine congrArg Host.Outcome.next ?_
    simp only [decideOp, decideSetPathTiming, switchOfByte_eq]
    by_cases h1 : 1 < auto.toNat
    · simp only [if_pos h1]
      rfl
    · simp only [if_neg h1, decided_ite, decided_refuse, decided_takenClamped, clampFail_eq, clampRevert_eq, bne_or_bne,
        boolByte_switch h1]
      rfl

/-! ### Talk settings -/

/-- One element of a vector replaced, as the statements write it. -/
theorem set_eq_ofFn {α : Type} {n i : Nat} (v : Vector α n) (hi : i < n) (x : α) :
    v.set i x = Vector.ofFn fun k => if k.val = i then x else v[k] :=
  Vector.ext fun j hj => by
    rw [Vector.getElem_set, Vector.getElem_ofFn]
    simp only [Fin.getElem_fin, eq_comm (a := i)]

/-- Settles O33. -/
theorem talkSettingsAreStored : Obligations.TalkSettingsAreStored := by
  unfold Obligations.TalkSettingsAreStored
  intro d line e hi lo s v
  refine ⟨fun hw => ?_, fun hw => ?_⟩
  · rw [show exec (.setTalkGain .decided d line [e, hi, lo]) s = _ from
      exec_decided (op := .setTalkGain) (by decide) hw]
    refine congrArg Host.Outcome.next ?_
    simp only [decideOp, decideSetTalkGain]
    by_cases h2 : 2 < e.toNat
    · rw [deskOfByte_eq_none h2, if_pos h2]
      rfl
    · have hallowed : (d == (⟨e.toNat, by omega⟩ : Desk) || (s.desk d).strap) = true ↔
          ¬(d.val ≠ e.toNat ∧ (s.desk d).strap = false) := by
        rw [Bool.or_eq_true, beq_iff_eq, Fin.ext_iff]
        cases (s.desk d).strap <;> simp
      rw [deskOfByte_eq h2, if_neg h2]
      simp only [decided_ite, hallowed, ite_not, decided_refuse, decided_takenClamped, clampGain_eq, clampedGain_eq,
        set_eq_ofFn]
      rfl
  · rw [show exec (.setTalkTimeout .decided d line [e, lo]) s = _ from
      exec_decided (op := .setTalkTimeout) (by decide) hw]
    refine congrArg Host.Outcome.next ?_
    simp only [decideOp, decideSetTalkTimeout]
    by_cases h2 : 2 < e.toNat
    · rw [deskOfByte_eq_none h2, if_pos h2]
      rfl
    · rw [deskOfByte_eq h2, if_neg h2]
      simp only [set_eq_ofFn]
      rfl

/-- Settles O32. -/
theorem reportsAndTimeoutsReleaseTalk : Obligations.ReportsAndTimeoutsReleaseTalk := by
  unfold Obligations.ReportsAndTimeoutsReleaseTalk
  intro n s u
  constructor
  · change Host.Outcome.next (recheckLine n u) = _
    refine congrArg Host.Outcome.next ?_
    have hholder : holderOf u n = holder s n := rfl
    rw [recheckLine, hholder]
    cases hh : holder s n with
    | none => rfl
    | some d =>
      have hkeep : (talkRights u d n && !(isFree (u.line n).state || isClearing (u.line n).state)) = true ↔
          mayTalk s d n = true ∧ (s.line n).state ≠ .free ∧ isClearing (s.line n).state = false := by
        have hline : u.line n = s.line n := rfl
        have hright : talkRights u d n = mayTalk s d n := talkRights_eq u d n
        rw [hright, hline, Bool.and_eq_true, Bool.not_eq_true', Bool.or_eq_false_iff, ← Bool.not_eq_true (isFree _),
          isFree_iff]
      have hrel : releaseHold n .state u = noticed [.talk n none (some d) .state] (withHold n none u) := by
        rw [releaseHold_eq, show holder u n = some d from hh]
        rfl
      simp only [hkeep, hrel]
  · change Host.Outcome.next (talkBlockEnd s) = _
    rw [talkBlockEnd_eq]
    refine congrArg (fun p => Host.Outcome.next (releases p .timeout s)) (funext fun k => ?_)
    unfold timedOut
    cases s.talk.holds[k] with
    | none => rfl
    | some h =>
      have hsub : (s.lanes.block - h.start).toNat =
          (s.lanes.block.toNat + 4294967296 - h.start.toNat) % 4294967296 := by
        rw [BitVec.toNat_sub]
        have := h.start.isLt
        congr 1
        omega
      have hpos (v : Nat) : (v != 0) = decide (1 ≤ v) := by
        cases v <;> simp
      simp only [hsub, hpos, Bool.decide_and]
      rfl

/-! ### Context settings -/

theorem maySetContext_eq {b : Byte} {c : Context} (h : contextOfByte b = some c) (d : Desk) (s : State) :
    maySetContext s (.desk d) c = setsContext s d b := by
  have hb : ¬2 < b.toNat := fun h2 => by rw [contextOfByte_eq_none h2] at h; exact absurd h (by simp)
  simp only [maySetContext, setsContext]
  congr 1
  revert d
  rcases byte_cases_three hb with rfl | rfl | rfl <;> obtain rfl := Option.some.inj h <;> decide

/-- A context command past its arguments, handed back (R109). -/
theorem decided_contextCommand {b : Byte} {c : Context} (h : contextOfByte b = some c) (d : Desk) (op : Op) (line : Byte)
    (s : State) (body : Decision) :
    decided d op line (contextCommand (.desk d) c s body) =
      if setsContext s d b = false then refusedWith d op line .notYours s else decided d op line body := by
  rw [contextCommand, maySetContext_eq h]
  cases setsContext s d b <;> rfl

/-- A two-byte, three-valued or larger selector past its values names no setting (R110, R112). -/
theorem withConf_studio_none {sel : Byte} (h : ¬sel.toNat ≤ 1) (x : Studio) (on : Bool) (ctx : ContextStore) :
    withConf (.studio x) sel on ctx = none := by
  unfold withConf
  split
  · omega
  · omega
  · next e _ => exact absurd e (by simp)
  · rfl

theorem withConf_screen_none {sel : Byte} (h : sel ≠ 2) (on : Bool) (ctx : ContextStore) :
    withConf .screen sel on ctx = none := by
  unfold withConf
  split
  · next e _ => exact absurd e (by simp)
  · next e _ => exact absurd e (by simp)
  · next e => exact absurd (BitVec.eq_of_toNat_eq e) h
  · rfl

theorem withCtxGain_studio_none {sel : Byte} (h : ¬sel.toNat ≤ 2) (x : Studio) (v : Nat) (ctx : ContextStore) :
    withCtxGain (.studio x) sel v ctx = none := by
  unfold withCtxGain
  split
  · omega
  · omega
  · omega
  · next e _ => exact absurd e (by simp)
  · rfl

theorem withCtxGain_screen_none {sel : Byte} (h : sel ≠ 3) (v : Nat) (ctx : ContextStore) :
    withCtxGain .screen sel v ctx = none := by
  unfold withCtxGain
  split
  · next e _ => exact absurd e (by simp)
  · next e _ => exact absurd e (by simp)
  · next e _ => exact absurd e (by simp)
  · next e => exact absurd (BitVec.eq_of_toNat_eq e) h
  · rfl

/-- The conference setting a legal pairing names takes the value (R110). -/
theorem withConf_eq {b : Byte} {c : Context} (h : contextOfByte b = some c) (hb : ¬2 < b.toNat) (sel : Byte) (on : Bool)
    (s : State) :
    withConf c sel on s.ctx =
      if (if b = 2 then sel = 2 else sel.toNat ≤ 1) then
        some (withContext b (fun x => if sel = 0 then { x with airConf := on } else { x with privConf := on })
          (fun x => { x with conf := on }) s).ctx
      else none := by
  rcases byte_cases_three hb with rfl | rfl | rfl <;> obtain rfl := Option.some.inj h
  · by_cases hs : sel.toNat ≤ 1
    · rcases byte_cases_two (Nat.not_lt.2 hs) with rfl | rfl <;> rfl
    · rw [withConf_studio_none hs]
      exact (if_neg hs).symm
  · by_cases hs : sel.toNat ≤ 1
    · rcases byte_cases_two (Nat.not_lt.2 hs) with rfl | rfl <;> rfl
    · rw [withConf_studio_none hs]
      exact (if_neg hs).symm
  · by_cases hs : sel = 2
    · subst hs
      rfl
    · rw [withConf_screen_none hs]
      exact (if_neg hs).symm

/-- The gain a legal pairing names takes the value (R112). -/
theorem withCtxGain_eq {b : Byte} {c : Context} (h : contextOfByte b = some c) (hb : ¬2 < b.toNat) (sel : Byte) (v : Nat)
    (s : State) :
    withCtxGain c sel v s.ctx =
      if (if b = 2 then sel = 3 else sel.toNat ≤ 2) then
        some (withContext b
          (fun x =>
            if sel = 0 then { x with stemGain := v }
            else if sel = 1 then { x with holdGain := v }
            else { x with privGain := v })
          (fun x => { x with gain := v }) s).ctx
      else none := by
  rcases byte_cases_three hb with rfl | rfl | rfl <;> obtain rfl := Option.some.inj h
  · by_cases hs : sel.toNat ≤ 2
    · rcases byte_cases_three (Nat.not_lt.2 hs) with rfl | rfl | rfl <;> rfl
    · rw [withCtxGain_studio_none hs]
      exact (if_neg hs).symm
  · by_cases hs : sel.toNat ≤ 2
    · rcases byte_cases_three (Nat.not_lt.2 hs) with rfl | rfl | rfl <;> rfl
    · rw [withCtxGain_studio_none hs]
      exact (if_neg hs).symm
  · by_cases hs : sel = 3
    · subst hs
      rfl
    · rw [withCtxGain_screen_none hs]
      exact (if_neg hs).symm

/-- Settles O34. -/
theorem conferenceAndGainAreStored : Obligations.ConferenceAndGainAreStored := by
  unfold Obligations.ConferenceAndGainAreStored
  intro d line c sel sw hi lo s v on
  refine ⟨fun hw => ?_, fun hw => ?_⟩
  · rw [show exec (.setConf .decided d line [c, sel, sw]) s = _ from exec_decided (op := .setConf) (by decide) hw]
    refine congrArg Host.Outcome.next ?_
    simp only [decideOp, decideSetConf]
    by_cases hc : 2 < c.toNat
    · rw [if_pos (Or.inl hc), contextOfByte_eq_none hc]
      rfl
    obtain ⟨x, hx⟩ := contextOfByte_isSome hc
    by_cases hsw : 1 < sw.toNat
    · rw [if_pos (Or.inr (Or.inl hsw)), switchOfByte_eq, if_pos hsw, hx]
      rfl
    rw [switchOfByte_eq, if_neg hsw, hx]
    simp only [withConf_eq hx hc]
    by_cases hp : if c = 2 then sel = 2 else sel.toNat ≤ 1
    · rw [if_pos hp, if_neg (not_or.2 ⟨hc, not_or.2 ⟨hsw, not_not.2 hp⟩⟩)]
      simp only [decided_contextCommand hx, boolByte_switch hsw]
      rfl
    · rw [if_neg hp, if_pos (Or.inr (Or.inr hp))]
      rfl
  · rw [show exec (.setCtxGain .decided d line [c, sel, hi, lo]) s = _ from
      exec_decided (op := .setCtxGain) (by decide) hw]
    refine congrArg Host.Outcome.next ?_
    simp only [decideOp, decideSetCtxGain]
    by_cases hc : 2 < c.toNat
    · rw [if_pos (.inl hc), contextOfByte_eq_none hc]
      rfl
    obtain ⟨x, hx⟩ := contextOfByte_isSome hc
    rw [hx]
    simp only [withCtxGain_eq hx hc, clampGain_eq, clampedGain_eq]
    by_cases hp : if c = 2 then sel = 3 else sel.toNat ≤ 2
    · rw [if_pos hp, if_neg (not_or.2 ⟨hc, not_not.2 hp⟩)]
      simp only [decided_contextCommand hx]
      rfl
    · rw [if_neg hp, if_pos (.inr hp)]
      rfl

theorem withDuck_eq {b : Byte} {c : Context} (h : contextOfByte b = some c) (hb : ¬2 < b.toNat) (v : Nat) (s : State) :
    s.withCtx (withDuck c v s.ctx) =
      withContext b (fun x => { x with duck := v }) (fun x => { x with duck := v }) s := by
  rcases byte_cases_three hb with rfl | rfl | rfl <;> obtain rfl := Option.some.inj h <;> rfl

/-- Settles O35. -/
theorem duckAndStemTimingAreStored : Obligations.DuckAndStemTimingAreStored := by
  unfold Obligations.DuckAndStemTimingAreStored
  intro d line c b hi lo s depth f r
  refine ⟨fun hw => ?_, fun hw => ?_⟩
  · rw [show exec (.setDuck .decided d line [c, b]) s = _ from exec_decided (op := .setDuck) (by decide) hw]
    refine congrArg Host.Outcome.next ?_
    simp only [decideOp, decideSetDuck]
    by_cases hc : 2 < c.toNat
    · rw [if_pos hc, contextOfByte_eq_none hc]
      rfl
    obtain ⟨x, hx⟩ := contextOfByte_isSome hc
    rw [if_neg hc, hx]
    simp only [decided_contextCommand hx, withDuck_eq hx hc, clampDuck_eq, clampedDuck_eq]
    rfl
  · rw [show exec (.setStemTiming .decided d line [c, b, hi, lo]) s = _ from
      exec_decided (op := .setStemTiming) (by decide) hw]
    refine congrArg Host.Outcome.next ?_
    simp only [decideOp, decideSetStemTiming, clampFail_eq, clampRevert_eq, bne_or_bne]
    by_cases hc : 1 < c.toNat
    · rw [if_pos hc]
      by_cases hc2 : 2 < c.toNat
      · rw [contextOfByte_eq_none hc2]
        rfl
      · obtain rfl : c = 2 := by bv_omega
        rfl
    · rw [if_neg hc]
      rcases byte_cases_two hc with rfl | rfl
      · exact decided_contextCommand (b := 0) rfl ..
      · exact decided_contextCommand (b := 1) rfl ..

end Sys2Proof.Proofs.Settings
end

section
/-! PROOFS. The clip records of the outputs (R96, R174): a row that goes through outputs in order changes each record
once and raises its notices in that order. -/

namespace Sys2Proof.Proofs.Clips

open Sys2Proof Sys2Proof.Machine Sys2Proof.Claims
open Sys2Proof.Proofs.Talk Sys2Proof.Proofs.Decisions Sys2Proof.Proofs.Settings

/-! ### One output after the other -/

/-- A change of one output's clip record, with the notices it raises. -/
def clipStep (news : Output → ClipRec → List Notice) (after : ClipRec → ClipRec) (s : State) (o : Output) : State :=
  noticed (news o s.mix.clips[o]) (s.withMix { s.mix with clips := s.mix.clips.set o (after s.mix.clips[o]) })

theorem clipStep_clip (news : Output → ClipRec → List Notice) (after : ClipRec → ClipRec) (s : State) (o k : Output) :
    (clipStep news after s o).mix.clips[k] = if k = o then after s.mix.clips[o] else s.mix.clips[k] :=
  set_get _ o k _

/-- What follows a change of a clip record, its clip records given. -/
theorem noticed_clipStep (news : Output → ClipRec → List Notice) (after : ClipRec → ClipRec) (s : State) (o : Output)
    (ms : List Notice) (clips : Vector ClipRec 21) :
    noticed ms ((clipStep news after s o).withMix { (clipStep news after s o).mix with clips := clips }) =
      noticed (news o s.mix.clips[o] ++ ms) (s.withMix { s.mix with clips := clips }) :=
  offerMany_append (news o s.mix.clips[o]) ms (s.withMix { s.mix with clips := clips })

/-- Several outputs in turn, none twice: each record is changed as it stood before the first. -/
theorem foldl_clipStep (news : Output → ClipRec → List Notice) (after : ClipRec → ClipRec) (l : List Output) :
    ∀ s : State, l.Nodup → l.foldl (clipStep news after) s =
      noticed (l.flatMap fun o => news o s.mix.clips[o]) (s.withMix { s.mix with
        clips := Vector.ofFn fun o => if o ∈ l then after s.mix.clips[o] else s.mix.clips[o] }) := by
  induction l with
  | nil =>
    intro s _
    have hid : (Vector.ofFn fun o : Output => if o ∈ ([] : List Output) then after s.mix.clips[o] else s.mix.clips[o]) =
        s.mix.clips := Vector.ext fun i hi => by simp
    rw [hid]
    exact (noticed_nil s).symm
  | cons o l ih =>
    intro s hl
    obtain ⟨ho, hl⟩ := List.nodup_cons.1 hl
    have hnews : (l.flatMap fun k => news k (clipStep news after s o).mix.clips[k]) =
        l.flatMap fun k => news k s.mix.clips[k] :=
      List.flatMap_congr fun k hk => by rw [clipStep_clip, if_neg (ne_of_mem_of_not_mem hk ho)]
    have hclips : (Vector.ofFn fun k => if k ∈ l then after (clipStep news after s o).mix.clips[k]
        else (clipStep news after s o).mix.clips[k]) =
        Vector.ofFn fun k => if k ∈ o :: l then after s.mix.clips[k] else s.mix.clips[k] :=
      congrArg Vector.ofFn (funext fun k => by
        rw [clipStep_clip]
        by_cases hk : k = o
        · subst hk
          simp [ho]
        · simp [hk])
    rw [List.foldl_cons, ih _ hl, hnews, hclips, List.flatMap_cons, noticed_clipStep]

/-- One notice for each element a test picks. -/
theorem flatMap_if {α β : Type} (p : α → Bool) (f : α → β) (l : List α) :
    (l.flatMap fun a => if p a then [f a] else []) = (l.filter p).map f := by
  induction l with
  | nil => rfl
  | cons a l ih => by_cases h : p a <;> simp [h, ih]

theorem allOutputs_eq : allOutputs = List.finRange 21 := by decide

/-! ### The pending notices of a block end (R174) -/

/-- A clip record whose pending notice is due. -/
def noticeDue (c : ClipRec) : Bool := c.quiet == 0 && c.pending

/-- A clip record after its pending notice, if one is due. -/
def afterPending (c : ClipRec) : ClipRec := if noticeDue c then ⟨c.count, 1000, false⟩ else c

def pendingNews (o : Output) (c : ClipRec) : List Notice := if noticeDue c then [.clip o c.count] else []

theorem noticeDue_iff (c : ClipRec) : noticeDue c = true ↔ c.quiet = 0 ∧ c.pending = true := by
  simp [noticeDue]

theorem raisePending_eq (s : State) (o : Output) : raisePending s o = clipStep pendingNews afterPending s o := by
  unfold raisePending clipStep pendingNews afterPending
  by_cases h : noticeDue s.mix.clips[o] = true
  · simp only [if_pos h, if_pos ((noticeDue_iff _).1 h)]
    rfl
  · simp only [if_neg h, if_neg (mt (noticeDue_iff _).2 h), noticed_nil]
    rw [show s.mix.clips.set o s.mix.clips[o] = s.mix.clips from Vector.set_getElem_self _]
    rfl

/-- Settles O39. -/
theorem quietCountsFallAtTheBlockEnd : Obligations.QuietCountsFallAtTheBlockEnd := by
  unfold Obligations.QuietCountsFallAtTheBlockEnd
  intro s
  refine congrArg Host.Outcome.next ?_
  unfold quietBlockEnd
  rw [funext fun t => funext (raisePending_eq t), allOutputs_eq, foldl_clipStep _ _ _ _ (List.nodup_finRange 21)]
  have hget (o : Output) : (Vector.ofFn fun k => fallQuiet s.mix.clips[k])[o] = fallQuiet s.mix.clips[o] := ofFn_get _ o
  simp only [State.withMix, hget, pendingNews, flatMap_if, List.mem_finRange, if_true]
  rfl

end Sys2Proof.Proofs.Clips
end

section
/-! PROOFS. One frame of the Mix Engine (R78 to R98): the engine's ramps, terms and results are those of the statements,
and a line's return has no operand of its own input. -/

namespace Sys2Proof.Proofs.Frame

open Sys2Proof Sys2Proof.Machine Sys2Proof.Claims
open Sys2Proof.Proofs.Talk Sys2Proof.Proofs.Decisions Sys2Proof.Proofs.Clips

/-! ### Ramps and terms -/

theorem rampAll_eq (s : State) : rampAll s = gainsAfter s := by
  simp only [rampAll, rampBase, rampStep_eq]
  rfl

theorem sumOver_eq (s : State) (m : MixEngine) (lines : List Line) : sumOver s m lines = heard s m.send lines := by
  have h : contribution s m = fun n => lineInput s n * (m.send[n] : Int) :=
    funext fun n => by rw [contribution, lineSample_eq]
  rw [sumOver, heard, h]

theorem baseTerm_eq (s : State) (m : MixEngine) (n : Line) : baseTerm s m n = baseOf s m n := by
  simp only [baseTerm, stemSample, roleSample_eq]
  unfold baseOf
  cases (s.line n).state <;> rfl

theorem othersTerm_eq (s : State) (m : MixEngine) (n : Line) : othersTerm s m n = othersOf s m n := by
  unfold othersTerm othersOf
  simp only [sumOver_eq, members_eq]
  cases (s.line n).state <;> rfl

theorem duckOf_eq (s : State) (n : Line) : duckOf s (contextOf (s.line n)) = depthOf s n := by
  unfold contextOf depthOf
  cases (s.line n).state <;> rfl

theorem talkTerm_eq (s : State) (n : Line) : talkTerm s n = match s.talk.holds[n] with
    | some h => sampleOf s (talkRole h.holder) * (s.talk.gain[h.holder] : Int)
    | none => 0 := by
  unfold talkTerm
  cases s.talk.holds[n] <;> simp only [roleSample_eq]

/-- A line has no return (R4). -/
def isOff (st : LineState) : Bool := st == .free || isClearing st

theorem isOff_eq (st : LineState) : (isFree st || isClearing st) = isOff st := by
  cases st <;> rfl

theorem returnRaw_eq (s : State) (m : MixEngine) (n : Line) :
    returnRaw s m n = if isOff (s.line n).state then 0 else returnOf s m n := by
  simp only [returnRaw, duckedReturn, preReturn, roundShift_eq, baseTerm_eq, othersTerm_eq, duckOf_eq, talkTerm_eq, isOff_eq]
  rfl

theorem outputBefore_return (s : State) (m : MixEngine) (n : Line) :
    outputBefore s m (returnOutput n) = returnRaw s m n := by
  rw [returnRaw_eq]
  unfold outputBefore
  rw [dif_pos (show (returnOutput n).val < 16 from n.isLt)]
  change (match (s.line n).state with
    | .free => 0
    | .clearing _ => 0
    | _ => returnOf s m n) = _
  cases (s.line n).state <;> rfl

theorem outputBefore_group (s : State) (m : MixEngine) (i : Fin 5) :
    outputBefore s m ⟨16 + i.val, by omega⟩ = groupRaw s m (groupAt i) := by
  unfold outputBefore groupRaw groupSum
  rw [dif_neg (show ¬16 + i.val < 16 by omega), roundShift_eq, sumOver_eq, members_eq]
  have hi : groupsInOrder.getD (16 + i.val - 16) .screen = groupAt i := by
    revert i
    decide
  rw [← hi]

theorem groupAt_groupIndex (g : Group) : groupAt (groupIndex g) = g := by
  cases g with
  | screen => rfl
  | air x => cases x <;> rfl
  | priv x => cases x <;> rfl

/-! ### Results, slots and clips -/

theorem resultsOf_eq (s : State) (m : MixEngine) : resultsOf s m =
    ⟨Vector.ofFn fun n => ⟨inRange (outputBefore s m (returnOutput n)), !isOff (s.line n).state,
        isClearing (s.line n).state⟩,
      Vector.ofFn fun i => inRange (outputBefore s m ⟨16 + i.val, by omega⟩), s.lanes.input⟩ := by
  simp only [outputBefore_return, outputBefore_group, ← saturate_eq, ← isOff_eq]
  rfl

theorem toNat_append_byte (a : AudioField) (b : Byte) : (a ++ b).toNat = a.toNat * 256 + b.toNat := by
  rw [BitVec.toNat_append, ← Nat.shiftLeft_add_eq_or_of_lt b.isLt, Nat.shiftLeft_eq]

/-- The 32 bits of an output slot as a number (R146). -/
theorem slotWord_eq (audio : AudioField) (valid release : Bool) :
    slotWord audio valid release = slotBits audio valid release := by
  have hlow : slotWord audio valid release =
      audio ++ BitVec.ofNat 8 ((if valid then 128 else 0) + (if release then 32 else 0)) := by
    cases valid <;> cases release <;> rfl
  have ha := audio.isLt
  refine BitVec.eq_of_toNat_eq ?_
  rw [hlow, toNat_append_byte, slotBits, BitVec.toNat_ofNat, BitVec.toNat_ofNat]
  cases valid <;> cases release <;> simp only [if_true, Bool.false_eq_true, if_false] <;> omega

theorem outputWord_eq (f : OutFn) (r : Results) : outputWord f r = slotCarries f r := by
  cases f with
  | none => rfl
  | airMix x => cases x <;> exact slotWord_eq ..
  | privMix x => cases x <;> exact slotWord_eq ..
  | _ => exact slotWord_eq ..

/-- The 16 returns, then the 5 groups (R170). -/
theorem finRange_outputs : List.finRange 21 = allLines.map returnOutput ++ groupsInOrder.map groupOutput := by decide

theorem clippedOutputs_eq (s : State) (m : MixEngine) :
    clippedOutputs s m = outputsWhere (fun o => clips (outputBefore s m o)) := by
  have hg (g : Group) : outputBefore s m (groupOutput g) = groupRaw s m g := by
    rw [groupOutput, outputBefore_group, groupAt_groupIndex]
  simp only [outputsWhere, finRange_outputs, List.filter_append, List.filter_map, Function.comp_def, outputBefore_return,
    hg, ← clipped_eq]
  rfl

/-- The notice of a clip that is counted with the quiet count at 0 (R174). -/
def clipNews (o : Output) (c : ClipRec) : List Notice :=
  if c.quiet == 0 then [.clip o (raised 65535 c.count)] else []

theorem countClip_eq (s : State) (o : Output) : countClip s o = clipStep clipNews clipCounted s o := by
  unfold countClip clipStep clipNews clipCounted
  by_cases h : (s.mix.clips[o]).quiet = 0
  · simp only [if_pos h, beq_iff_eq]
    rfl
  · simp only [if_neg h, beq_iff_eq, noticed_nil]
    rfl

/-! ### The frame -/

theorem raisePeaks_eq (s : State) (r : Results) (p : PeakSet) : raisePeaks s r p =
    { input := Vector.ofFn fun n => max p.input[n] (lineInput s n).natAbs
      ret := Vector.ofFn fun n => max p.ret[n] (r.returns[n]).audio.natAbs
      group := Vector.ofFn fun i => max p.group[i] (r.groups[i]).natAbs } := by
  simp only [raisePeaks, lineSample_eq]

theorem outputFrame_eq (s : State) :
    outputFrame s = Vector.ofFn fun i => slotCarries s.maps.output[i] s.mix.results := by
  simp only [outputFrame, outputWord_eq]

/-- The clips a computation counts, with their notices (R96, R174). -/
theorem foldl_countClip (p : Output → Bool) (s : State) : (outputsWhere p).foldl countClip s =
    noticed ((outputsWhere fun o => p o && (s.mix.clips[o]).quiet == 0).map
        fun o => .clip o (raised 65535 (s.mix.clips[o]).count))
      (s.withMix { s.mix with
        clips := Vector.ofFn fun o => if p o then clipCounted s.mix.clips[o] else s.mix.clips[o] }) := by
  have hnd : (outputsWhere p).Nodup := (List.nodup_finRange 21).filter p
  rw [funext fun t => funext (countClip_eq t), foldl_clipStep _ _ _ _ hnd]
  have hmem (o : Output) : o ∈ outputsWhere p ↔ p o = true := by simp [outputsWhere]
  simp only [hmem]
  simp only [clipNews, flatMap_if, outputsWhere, List.filter_filter, Bool.and_comm]

/-- Settles O37. -/
theorem frameIsComputed : Obligations.FrameIsComputed := by
  unfold Obligations.FrameIsComputed
  intro s m value gone off returns groups news
  refine congrArg Host.Outcome.next ?_
  have hramp : rampAll s = m := rampAll_eq s
  have hclips : clippedOutputs s m = outputsWhere (fun o => clips (value o)) := clippedOutputs_eq s m
  have hresults : resultsOf s m = ⟨returns, groups, s.lanes.input⟩ := resultsOf_eq s m
  have hm : m.clips = s.mix.clips := rfl
  simp only [computeFrame, hramp, hclips, hresults, outputFrame_eq, raisePeaks_eq]
  clear_value m value returns groups
  rw [foldl_countClip]
  simp only [State.withMix, State.withLanes, hm]
  rfl

/-! ### Mix-minus (R91) -/

/-- The state with other input slots in the frame. -/
def withInput (other : Vector SlotIn 64) (s : State) : State := { s with lanes := { s.lanes with input := other } }

@[simp] theorem withInput_line (other : Vector SlotIn 64) (s : State) (n : Line) :
    (withInput other s).line n = s.line n := rfl
@[simp] theorem withInput_lines (other : Vector SlotIn 64) (s : State) : (withInput other s).lines = s.lines := rfl
@[simp] theorem withInput_ctx (other : Vector SlotIn 64) (s : State) : (withInput other s).ctx = s.ctx := rfl
@[simp] theorem withInput_talk (other : Vector SlotIn 64) (s : State) : (withInput other s).talk = s.talk := rfl

/-- The line of a line path role (R151). -/
theorem activeRole_mod (s : State) (n : Line) : (activeRole s n).val < 32 ∧ (activeRole s n).val % 16 = n.val := by
  have hn := n.isLt
  unfold activeRole
  cases (s.paths[n]).active
  · exact ⟨show n.val < 32 by omega, Nat.mod_eq_of_lt hn⟩
  · exact ⟨show 16 + n.val < 32 by omega, show (16 + n.val) % 16 = n.val by omega⟩

section MixMinus

variable {n : Line} {s : State} {other : Vector SlotIn 64}
  (h : ∀ role : Fin 44, role ≠ activeRole s n → sampleOf (withInput other s) role = sampleOf s role)
include h

/-- A role that is no line's path gives the same sample. -/
theorem sampleOf_withInput {role : Fin 44} (hr : 32 ≤ role.val) : sampleOf (withInput other s) role = sampleOf s role :=
  h role fun he => absurd (activeRole_mod s n).1 (by rw [← he]; omega)

theorem lineInput_withInput {k : Line} (hk : k ≠ n) : lineInput (withInput other s) k = lineInput s k := by
  have hne : activeRole s k ≠ activeRole s n := fun he =>
    hk (Fin.ext (by rw [← (activeRole_mod s k).2, he, (activeRole_mod s n).2]))
  have hs : sampleOf (withInput other s) (activeRole (withInput other s) k) = sampleOf s (activeRole s k) := h _ hne
  unfold lineInput
  rw [hs]
  rfl

theorem heard_withInput (send : Vector Nat 16) (lines : List Line) :
    heard (withInput other s) send (lines.filter fun k => k != n) = heard s send (lines.filter fun k => k != n) := by
  refine congrArg List.sum (List.map_congr_left fun k hk => ?_)
  have hkn : k ≠ n := by simpa using (List.mem_filter.1 hk).2
  rw [lineInput_withInput h hkn]

theorem returnOf_withInput (m : MixEngine) : returnOf (withInput other s) m n = returnOf s m n := by
  have hstem (x : Studio) := sampleOf_withInput h (role := stemRole x) (by cases x <;> decide)
  have hsafe (x : Studio) := sampleOf_withInput h (role := safeRole x) (by cases x <;> decide)
  have hhold (x : Studio) := sampleOf_withInput h (role := holdRole x) (by cases x <;> decide)
  have hpriv (x : Studio) := sampleOf_withInput h (role := privTalkRole x) (by cases x <;> decide)
  have hscreen := sampleOf_withInput h (role := screenTalkRole) (by decide)
  have htalk (d : Desk) := sampleOf_withInput h (role := talkRole d) (by revert d; decide)
  have hbase : baseOf (withInput other s) m n = baseOf s m n := by
    simp only [baseOf, withInput_line, withInput_ctx, hstem, hsafe, hhold, hpriv, hscreen]
  have hothers : othersOf (withInput other s) m n = othersOf s m n := by
    simp only [othersOf, withInput_line, withInput_lines, withInput_ctx, heard_withInput h]
  have hdepth : depthOf (withInput other s) n = depthOf s n := rfl
  simp only [returnOf, hbase, hothers, hdepth, withInput_talk, htalk]

end MixMinus

/-- The return a computation leaves (R95). -/
theorem return_of_frame {s t : State} (ht : exec .frameComputation s = .next t) (n : Line) :
    t.mix.results.returns[n] =
      ⟨inRange (outputBefore s (gainsAfter s) (returnOutput n)), !isOff (s.line n).state, isClearing (s.line n).state⟩ := by
  obtain rfl := Host.Outcome.next.inj ((frameIsComputed s).symm.trans ht)
  exact ofFn_get _ n

/-- Settles O38. -/
theorem ownVoiceNeverReturns : Obligations.OwnVoiceNeverReturns := by
  unfold Obligations.OwnVoiceNeverReturns
  intro n s t t' other s' h ht ht'
  have hout : outputBefore (withInput other s) (gainsAfter s) (returnOutput n) =
      outputBefore s (gainsAfter s) (returnOutput n) := by
    rw [outputBefore_return, outputBefore_return, returnRaw_eq, returnRaw_eq, returnOf_withInput h, withInput_line]
  rw [return_of_frame ht, return_of_frame ht', ← hout]
  rfl

end Sys2Proof.Proofs.Frame
end

section
/-! PROOFS. READ-METERS and READ-STUDIO (R50, R53, R113, R175): the data byte by byte, and the peaks they clear. -/

namespace Sys2Proof.Proofs.Reads

open Sys2Proof Sys2Proof.Machine Sys2Proof.Claims
open Sys2Proof.Proofs.Talk Sys2Proof.Proofs.Decisions Sys2Proof.Proofs.LineOps Sys2Proof.Proofs.Settings

/-- Settles O41. -/
theorem readMetersClearsTheSendersPeaks : Obligations.ReadMetersClearsTheSendersPeaks := by
  unfold Obligations.ReadMetersClearsTheSendersPeaks
  intro d line s hw
  rw [show exec (.readMeters .decided d line []) s = _ from exec_decided (op := .readMeters) (by decide) hw]
  refine congrArg Host.Outcome.next ?_
  simp only [decideOp, decideReadMeters]
  cases lineOfByte line <;> rfl

/-! ### The parts of READ-STUDIO -/

theorem boolByte_yes (b : Bool) : [boolByte b] = [if b then (1 : Byte) else 0] := by cases b <;> rfl

/-- A queue as the statement writes it: its length, then line and mark of each entry (R50). -/
theorem queueBytes_yes (q : List Entry) : queueBytes q = [BitVec.ofNat 8 q.length] ++
    q.flatMap fun e => [BitVec.ofNat 8 (e.line.val + 1)] ++ [if e.arriving then (1 : Byte) else 0] := by
  simp only [← boolByte_yes]
  rfl

/-- A member is shown with phase 1 when it has a destination (R53, R169). -/
theorem phaseByte_member {st : LineState} {g : Group} (h : memberGroup st = some g) :
    [phaseByte (phaseOf st)] = [if (destOf st).isSome then (1 : Byte) else 0] := by
  cases st with
  | screen p => cases p <;> rfl
  | air x p => cases p <;> rfl
  | priv x p => cases p <;> rfl
  | _ => cases h

/-- One group of the group part (R53). -/
theorem groupBytes_yes (s : State) (g : Group) : groupBytes s g =
    [BitVec.ofNat 8 (occupied s.lines g)] ++ [BitVec.ofNat 8 (groupMembers s.lines g).length] ++
    (groupMembers s.lines g).flatMap (fun n => [BitVec.ofNat 8 (n.val + 1)] ++
      [if (destOf (s.line n).state).isSome then (1 : Byte) else 0]) ++
    [BitVec.ofNat 8 (linesWhere fun n => reservedGroup (s.line n).state == some g).length] ++
    (linesWhere fun n => reservedGroup (s.line n).state == some g).flatMap fun n => [BitVec.ofNat 8 (n.val + 1)] := by
  have hmembers : (groupMembers s.lines g).flatMap (fun n => [BitVec.ofNat 8 (n.val + 1)] ++
      [if (destOf (s.line n).state).isSome then (1 : Byte) else 0]) =
      (members s.lines g).flatMap fun n => [lineByte n, phaseByte (phaseOf (s.line n).state)] :=
    List.flatMap_congr fun n hn => by
      have hg : memberGroup (s.line n).state = some g := beq_iff_eq.1 (List.mem_filter.1 hn).2
      rw [← phaseByte_member hg]
      rfl
  rw [hmembers, ← List.map_eq_flatMap, List.append_assoc]
  rfl

/-- Settles O42. -/
theorem readStudioShowsTheStudio : Obligations.ReadStudioShowsTheStudio := by
  unfold Obligations.ReadStudioShowsTheStudio
  intro d line b s hw x one yes num shownGroups q queue holding group c feed base p cleared meters
  rw [show exec (.readStudio .decided d line [b]) s = _ from exec_decided (op := .readStudio) (by decide) hw]
  refine congrArg Host.Outcome.next ?_
  simp only [decideOp, decideReadStudio, List.head?_cons, Option.bind_some]
  have hqueue : queueBytes (queueOf s.lines x) = queue := queueBytes_yes _
  have hgroup : groupBytes s = group := funext fun g => groupBytes_yes s g
  have hbase : baseFeedBytes s x = base := by
    simp only [baseFeedBytes, base, one, List.append_assoc, List.cons_append, List.nil_append]
    refine congrArg₂ List.cons ?_ rfl
    cases (s.ctx.studios.get x).base <;> rfl
  by_cases hb : 1 < b.toNat
  · rw [if_pos hb, studioOfByte_eq_none (Nat.not_le.2 hb)]
    rfl
  · rw [if_neg hb, studioOfByte_named (Nat.not_lt.1 hb)]
    change decided d .readStudio line (taken (queueBytes (queueOf s.lines x) ++ (studioGroups x).flatMap (groupBytes s) ++
      baseFeedBytes s x ++ meterBytes s d x) (clearGroupPeaks d x s)) = _
    rw [hqueue, hgroup, hbase]
    rfl

end Sys2Proof.Proofs.Reads
end

section
/-! PROOFS. The Context Store's block end (R102 to R107), and the rows that name one part of a block end (log entry
5). -/

namespace Sys2Proof.Proofs.Feeds

open Sys2Proof Sys2Proof.Machine Sys2Proof.Claims
open Sys2Proof.Proofs.Talk Sys2Proof.Proofs.Decisions Sys2Proof.Proofs.Owners Sys2Proof.Proofs.Clips

/-- The BASE notice of a studio brought to a level (R107). -/
def baseNews (x : Studio) (level : BaseLevel) (c : StudioCtx) : List Notice :=
  if level = c.base then [] else [.base x level]

theorem setStudio_self (x : Studio) (s : State) : setStudio x (s.ctx.studios.get x) s = s := by
  cases x <;> rfl

/-- The level moved and its notice, whether or not they change anything (R104, R107). -/
theorem moveBase_eq (x : Studio) (level : BaseLevel) (s : State) : moveBase x level s =
    noticed (baseNews x level (s.ctx.studios.get x)) (setStudio x { s.ctx.studios.get x with base := level } s) := by
  obtain ⟨hl, h⟩ | ⟨hl, h⟩ := moveBase_cases x level s
  · rw [h, baseNews, if_pos hl, hl, noticed_nil]
    exact (setStudio_self x s).symm
  · rw [h, baseNews, if_neg hl]
    rfl

theorem judgeStudio_eq (s : State) (x : Studio) (c : StudioCtx) : judgeStudio s x c =
    { c with stem := feedAfter (roleGood s (stemRole x)) c.stem, safe := feedAfter (roleGood s (safeRole x)) c.safe } := by
  simp only [judgeStudio, judgeFeed_eq, moveFeed_eq]

/-- The Context Store's block-end step as one change with its notices. -/
theorem feedsBlockEnd_eq (s : State) :
    let ran (x : Studio) : StudioCtx := judgeStudio s x (s.ctx.studios.get x)
    let moved (c : StudioCtx) : StudioCtx := { c with base := nextBase c }
    feedsBlockEnd s = noticed (baseNews .a (nextBase (ran .a)) (ran .a) ++ baseNews .b (nextBase (ran .b)) (ran .b))
      (s.withCtx { s.ctx with studios := ⟨moved (ran .a), moved (ran .b)⟩, tested := some s.lanes.block }) := by
  intro ran moved
  simp only [feedsBlockEnd, transitBase, moveBase_eq]
  exact offerMany_append _ _ (s.withCtx { s.ctx with
    studios := ⟨moved (ran .a), moved (ran .b)⟩, tested := some s.lanes.block })

/-- Settles O36. -/
theorem feedsAreJudgedAtTheBlockEnd : Obligations.FeedsAreJudgedAtTheBlockEnd := by
  unfold Obligations.FeedsAreJudgedAtTheBlockEnd
  intro s ran moved news
  refine congrArg Host.Outcome.next ?_
  simp only [feedsBlockEnd_eq, judgeStudio_eq, nextBase_eq]
  rfl

/-- The level a studio has after the block-end step. -/
theorem feedsBlockEnd_base (x : Studio) (s : State) : ((feedsBlockEnd s).ctx.studios.get x).base = levelAtEnd x s := by
  rw [feedsBlockEnd_eq]
  cases x <;> rfl

theorem feedsEndDue_iff (s : State) : feedsEndDue s = true ↔ s.lanes.frames = 48 ∧ s.ctx.tested ≠ some s.lanes.block := by
  simp [feedsEndDue, Config.framesPerBlock]

/-- Settles O40. -/
theorem partsOfABlockEndAlone : Obligations.PartsOfABlockEndAlone := by
  unfold Obligations.PartsOfABlockEndAlone
  intro x o s c k level due
  have hlevel : levelAtEnd x s = level := levelAtEnd_eq x s
  have hdue : (feedsEndDue s && levelAtEnd x s != (s.ctx.studios.get x).base) = true ↔ due := by
    rw [hlevel, Bool.and_eq_true, feedsEndDue_iff, bne_iff_ne, and_assoc]
  have hbase : exec (.baseLevelTransition x) s = .next (if due then feedsBlockEnd s else s) := by
    change Host.Outcome.next (baseLevelStep x s) = _
    rw [baseLevelStep, if_congr hdue rfl rfl]
  have hrelock : exec .clockRelock s = .next (if s.lanes.clock = .freeRun ∧ s.lanes.relock = 250 then
      noticed [.clock .referenced s.lanes.refLane] { s with lanes := { s.lanes with clock := .referenced } } else s) := rfl
  have hclip : exec (.pendingClipNotice o) s = .next (if k.quiet = 0 ∧ k.pending = true then
      noticed [.clip o k.count] { s with mix := { s.mix with clips := s.mix.clips.set o ⟨k.count, 1000, false⟩ } }
      else s) := rfl
  refine ⟨fun h => ⟨feedsBlockEnd s, ?_, rfl, ?_, ?_⟩, fun h => ?_, fun h => ?_, fun h => ?_, fun h => ?_, fun h => ?_⟩
  · rw [hbase, if_pos h]
  · rw [feedsBlockEnd_base, hlevel]
  · rw [feedsBlockEnd_eq]
    rfl
  · rw [hbase, if_neg h]
  · rw [hrelock, if_pos h]
  · rw [hrelock, if_neg]
    rintro ⟨hfree, h250⟩
    obtain hr | hn := h
    · rw [hfree] at hr
      cases hr
    · exact hn h250
  · rw [hclip, if_pos h]
  · rw [hclip, if_neg]
    rintro ⟨hq, hp⟩
    obtain hn | hf := h
    · exact hn hq
    · rw [hp] at hf
      cases hf

end Sys2Proof.Proofs.Feeds
end

section
/-! PROOFS. The Lane Interface and the Slot Map (chapter 8): frames, block starts and block ends, the reference lane, and
the two maps with their pending changes. -/

namespace Sys2Proof.Proofs.Lanes

open Sys2Proof Sys2Proof.Machine Sys2Proof.Claims
open Sys2Proof.Proofs.Talk Sys2Proof.Proofs.Decisions Sys2Proof.Proofs.LineOps Sys2Proof.Proofs.Settings
open Sys2Proof.Proofs.Blocks

/-! ### Frames, blocks and the clock -/

/-- Settles O43. -/
theorem inputFrameAndBlockStart : Obligations.InputFrameAndBlockStart := by
  unfold Obligations.InputFrameAndBlockStart
  intro lanes s l slotOf
  refine ⟨congrArg Host.Outcome.next ?_, congrArg Host.Outcome.next ?_⟩
  · have hinput (i : Fin 64) : (Vector.ofFn slotOf)[i] = slotOf i := ofFn_get _ i
    have hslots : (Vector.ofFn fun i : Fin 64 => if (lanes[laneOfIndex i]).aligned then
        readSlot (lanes[laneOfIndex i]).slots[numOfIndex i] else SlotIn.silent) = Vector.ofFn slotOf := rfl
    simp only [takeFrame, hslots, hinput]
    rfl
  · have hblock : s.lanes.block + 1 = BitVec.ofNat 32 (s.lanes.block.toNat + 1) := by
      refine BitVec.eq_of_toNat_eq ?_
      rw [BitVec.toNat_add, BitVec.toNat_ofNat]
      rfl
    rw [startBlock, hblock]
    rfl

/-- Settles O44. -/
theorem lanesAreJudgedAtTheBlockEnd : Obligations.LanesAreJudgedAtTheBlockEnd := by
  unfold Obligations.LanesAreJudgedAtTheBlockEnd
  intro s l locked l' clocked
  refine congrArg Host.Outcome.next ?_
  have hlanes : judgeLanes s = l' := rfl
  have hjudged : l'.judged[l'.refLane] = locked l.refLane := ofFn_get _ _
  have hclock : l'.clock = l.clock := rfl
  have hend : lanesBlockEnd s = match l.clock with
      | .referenced => loseReference (s.withLanes l')
      | .freeRun => relockClock (s.withLanes l') := rfl
  rw [hend]
  cases hc : l.clock with
  | referenced =>
    simp only [loseReference, State.withLanes, hjudged, hclock, hc, true_and]
    rfl
  | freeRun =>
    simp only [relockClock, State.withLanes, hclock, hc, true_and]
    rfl

/-- Settles O45. -/
theorem referenceLaneIsPendingUntilABlockStart : Obligations.ReferenceLaneIsPendingUntilABlockStart := by
  unfold Obligations.ReferenceLaneIsPendingUntilABlockStart
  intro d line b s
  refine ⟨fun hw => ?_, ?_⟩
  · rw [show exec (.setClock .decided d line [b]) s = _ from exec_decided (op := .setClock) (by decide) hw]
    refine congrArg Host.Outcome.next ?_
    simp only [decideOp, decideSetClock, List.head?_cons, Option.bind_some, laneOfByte]
    by_cases hb : b.toNat < 4
    · have hbyte : byteOf b.toNat = b := BitVec.ofNat_toNat ..
      simp only [dif_pos hb, hbyte, Fin.ext_iff, eq_comm (a := b.toNat)]
      rfl
    · simp only [dif_neg hb]
      rfl
  · change Host.Outcome.next (applyReference s) = _
    unfold applyReference
    cases s.lanes.pendingRef <;> rfl

/-! ### MAP-INPUT and MAP-OUTPUT -/

theorem inputValue_eq (lane num : Byte) : inputValue lane num =
    if lane.toNat = 255 ∨ (lane.toNat < 4 ∧ num.toNat < 16) then some (slotOfBytes lane num) else none := by
  unfold inputValue slotOfBytes
  by_cases h255 : lane = 255
  · subst h255
    rfl
  · have hne : lane.toNat ≠ 255 := by bv_omega
    rw [if_neg h255]
    by_cases h : lane.toNat < 4 ∧ num.toNat < 16
    · rw [dif_pos h, if_pos (Or.inr h)]
      rfl
    · rw [dif_neg h, if_neg (not_or.2 ⟨hne, h⟩)]
      rfl

theorem nextInput_eq (s : State) (role : Fin 44) :
    nextInput s role = (s.maps.inPending[role]).getD s.maps.input[role] := by
  unfold nextInput
  cases s.maps.inPending[role] <;> rfl

theorem roleBusy_iff (s : State) (role : Fin 44) :
    roleBusy s role = true ↔ role.val < 32 ∧ (s.line (Fin.ofNat 16 role.val)).state ≠ .free := by
  unfold roleBusy
  by_cases h : role.val < 32
  · rw [show lineOfRole role = some (Fin.ofNat 16 role.val) from if_pos h]
    simp only [h, true_and, Bool.not_eq_true', ← Bool.not_eq_true, isFree_eq_true_iff]
  · rw [show lineOfRole role = none from if_neg h]
    simp [h]

/-- Settles O46. -/
theorem mapInputIsDecidedInOrder : Obligations.MapInputIsDecidedInOrder := by
  unfold Obligations.MapInputIsDecidedInOrder
  intro d line b lane num role s hw value done
  rw [show exec (.mapInput .decided d line [b, lane, num]) s = _ from exec_decided (op := .mapInput) (by decide) hw]
  simp only [decideOp, decideMapInput, inputValue_eq]
  refine ⟨fun hbad => congrArg Host.Outcome.next ?_, fun hrole hgood => congrArg Host.Outcome.next ?_⟩
  · by_cases hb : b.toNat < 44
    · rw [dif_pos hb, if_neg (by omega)]
      rfl
    · rw [dif_neg hb]
      rfl
  · obtain ⟨r, hr⟩ := role
    obtain rfl : b.toNat = r := hrole
    rw [dif_pos hr, if_pos hgood]
    simp only [nextInput_eq, roleBusy_iff, decided_ite]
    rfl

theorem outFnOfBytes_eq (code p q : Byte) : outFnOfBytes code p q =
    if code = 0 then some .none
    else if h : code = 1 ∧ 1 ≤ p.toNat ∧ p.toNat ≤ 16 then some (.ret ⟨p.toNat - 1, by omega⟩)
    else if code = 2 ∧ p.toNat ≤ 1 then some (.airMix (if p = 0 then .a else .b))
    else if code = 3 ∧ p.toNat ≤ 1 then some (.privMix (if p = 0 then .a else .b))
    else if code = 4 then some .screenMix
    else if h : code = 5 ∧ p.toNat < 4 ∧ q.toNat < 16 then some (.copy ⟨⟨p.toNat, h.2.1⟩, ⟨q.toNat, h.2.2⟩⟩)
    else none := by
  have hstudio (f : Studio → OutFn) : (studioOfByte p).map f =
      if p.toNat ≤ 1 then some (f (if p = 0 then .a else .b)) else none := by
    by_cases h : p.toNat ≤ 1
    · rw [studioOfByte_named h, if_pos h]
      simp [namedStudio]
    · rw [studioOfByte_eq_none h, if_neg h]
      rfl
  by_cases hcode : code.toNat ≤ 5
  · have hcases : code = 0 ∨ code = 1 ∨ code = 2 ∨ code = 3 ∨ code = 4 ∨ code = 5 := by bv_omega
    rcases hcases with rfl | rfl | rfl | rfl | rfl | rfl
    · rfl
    · change (lineOfByte p).map OutFn.ret = _
      by_cases h : 1 ≤ p.toNat ∧ p.toNat ≤ 16 <;> simp [lineOfByte, h]
    · exact (hstudio .airMix).trans (by simp)
    · exact (hstudio .privMix).trans (by simp)
    · rfl
    · change (slotOfBytes p q).map OutFn.copy = _
      by_cases h : p.toNat < 4 ∧ q.toNat < 16 <;> simp [slotOfBytes, h]
  · have hnone : outFnOfBytes code p q = none := by
      obtain ⟨m, hm⟩ : ∃ m, code.toNat = m + 6 := ⟨code.toNat - 6, by omega⟩
      rw [outFnOfBytes, hm]
      rfl
    have hne (k : Byte) (hk : k.toNat ≤ 5) : code ≠ k := fun h => hcode (h ▸ hk)
    simp only [hnone, hne 0 (by decide), hne 1 (by decide), hne 2 (by decide), hne 3 (by decide), hne 4 (by decide),
      hne 5 (by decide), false_and, if_false, dite_false]

/-- Settles O47. -/
theorem mapOutputIsDecided : Obligations.MapOutputIsDecided := by
  unfold Obligations.MapOutputIsDecided
  intro d line lane num code p q s hw fn
  rw [show exec (.mapOutput .decided d line [lane, num, code, p, q]) s = _ from
    exec_decided (op := .mapOutput) (by decide) hw]
  refine congrArg Host.Outcome.next ?_
  have hfn : outFnOfBytes code p q = fn := outFnOfBytes_eq code p q
  simp only [decideOp, decideMapOutput, slotOfBytes, hfn]
  clear_value fn
  by_cases h : lane.toNat < 4 ∧ num.toNat < 16
  · rw [dif_pos h, if_pos h]
    cases fn with
    | none => rfl
    | some f =>
      simp only [set_eq_ofFn]
      rfl
  · rw [dif_neg h, if_neg h]
    rfl

/-! ### Pending maps (R105, R139, R153) -/

/-- A path whose slot changed, or not. -/
def freshPath (b : Bool) (p : PathRec) : PathRec :=
  if b then { p with goodRun := 0, badRun := 0, connected := false } else p

theorem loseAlternate_eq (p : PathLine) :
    let forced := p.mode == .alternate || p.pending == some .alternate
    loseAlternate p = { p with
      active := .primary
      mode := if forced then .auto else p.mode
      pending := if forced then none else p.pending } := by
  simp only [loseAlternate, Bool.or_eq_true, beq_iff_eq]

/-- A line's paths under a new map, by what changed (R139). -/
theorem remapLine_eq (old new : SlotMap) (n : Line) (p : PathLine) :
    let changed (role : Fin 44) : Bool := old.input[role] != new.input[role]
    let noPrimary := changed (primaryRole n) && new.input[primaryRole n] == none
    let noAlternate := changed (alternateRole n) && new.input[alternateRole n] == none
    let forcedAway := noAlternate && (p.mode == .alternate || p.pending == some .alternate)
    remapLine old new n p = { p with
      primary := freshPath (changed (primaryRole n) || noPrimary) p.primary
      alternate := freshPath (changed (alternateRole n) || noPrimary) p.alternate
      active := if noPrimary || noAlternate then .primary else p.active
      mode := if noPrimary || forcedAway then .auto else p.mode
      pending := if noPrimary || forcedAway then none else p.pending
      arrival := if noPrimary then 0 else p.arrival
      gone := if noPrimary then 0 else p.gone } := by
  intro changed noPrimary noAlternate forcedAway
  have hnone (v : Option Slot) : v.isNone = (v == none) := by cases v <;> rfl
  have hline : remapLine old new n p =
      let p := if changed (primaryRole n) then { p with primary := restartPath p.primary } else p
      let p := if changed (alternateRole n) then { p with alternate := restartPath p.alternate } else p
      let p := if noAlternate then loseAlternate p else p
      if noPrimary then losePrimary p else p := by
    simp only [remapLine, hnone]
    rfl
  rw [hline]
  simp only [loseAlternate_eq]
  clear_value noPrimary noAlternate changed
  generalize changed (primaryRole n) = pc
  generalize changed (alternateRole n) = ac
  cases noPrimary <;> cases noAlternate <;> cases pc <;> cases ac <;> rfl

theorem changedRoles_eq_nil_iff (old new : SlotMap) : changedRoles old new = [] ↔ old.input = new.input := by
  simp only [changedRoles, List.filter_eq_nil_iff, List.mem_finRange, forall_const, roleChanges, bne_iff_ne, not_not]
  exact ⟨fun h => Vector.ext fun i hi => h ⟨i, hi⟩, fun h role => by rw [h]⟩

/-- The state after a new map, its parts given. -/
theorem mapTaken_eq {new : SlotMap} {s : State} {line : Line → PathLine} {a b : StudioCtx} {events : List (List (Fin 44))}
    (hline : (fun n => remapLine s.maps new n s.paths[n]) = line) (ha : remapStudio s.maps new .a s.ctx.studios.a = a)
    (hb : remapStudio s.maps new .b s.ctx.studios.b = b) (hevents : mapEvents s.maps new = events) :
    mapTaken new s = { s with
      maps := new
      paths := Vector.ofFn line
      ctx := { s.ctx with studios := ⟨a, b⟩ }
      wires := { s.wires with mapChanges := s.wires.mapChanges ++ events } } := by
  subst hline ha hb hevents
  simp only [mapTaken, State.withMaps, State.withPaths, State.withCtx, State.withWires]

/-- Settles O48. -/
theorem pendingMapsTakeEffect : Obligations.PendingMapsTakeEffect := by
  unfold Obligations.PendingMapsTakeEffect
  intro s old new changed fresh line feed studio
  refine ⟨?_, rfl⟩
  change execInputMapApply s = _
  rw [execInputMapApply_eq]
  have hline : (fun n => remapLine s.maps (applyInputMap s.maps) n s.paths[n]) = line := funext fun n => remapLine_eq ..
  have hevents : mapEvents s.maps (applyInputMap s.maps) =
      if old = new then [] else [(List.finRange 44).filter changed] :=
    if_congr (changedRoles_eq_nil_iff _ _) rfl rfl
  have hstudioA : remapStudio s.maps (applyInputMap s.maps) .a s.ctx.studios.a = studio .a := rfl
  have hstudioB : remapStudio s.maps (applyInputMap s.maps) .b s.ctx.studios.b = studio .b := rfl
  rw [mapTaken_eq hline hstudioA hstudioB hevents]
  rfl

end Sys2Proof.Proofs.Lanes
end

section
/-! PROOFS. The Path Monitor's block end (R133 to R143): a line's step as the statements write it, and the rows that name
one part of it (log entry 5). -/

namespace Sys2Proof.Proofs.Paths

open Sys2Proof Sys2Proof.Machine Sys2Proof.Claims
open Sys2Proof.Proofs.Talk Sys2Proof.Proofs.Decisions

/-! ### One line's step -/

/-- The active path after the tests of R136. -/
def nextActive (p : PathLine) : PathSide :=
  if p.mode ≠ .auto then p.active
  else
    match p.active with
    | .primary => if p.failThr ≤ p.primary.badRun ∧ p.alternate.judgement = .good then .alternate else .primary
    | .alternate =>
      if p.failThr ≤ p.alternate.badRun ∧ p.primary.judgement = .good then .primary
      else if p.autoRevert = true ∧ p.revertThr ≤ p.primary.goodRun then .primary
      else .alternate

/-- The path a failover test looks at, and the other (R136). -/
theorem failoverDue_iff (p : PathLine) : failoverDue p = true ↔
    p.mode = .auto ∧ p.failThr ≤ (if p.active = .primary then p.primary else p.alternate).badRun ∧
      (if p.active = .primary then p.alternate else p.primary).judgement = .good := by
  cases ha : p.active <;> simp [failoverDue, activeFailed, ha, pathOf, otherSide, and_assoc]

theorem revertDue_iff (p : PathLine) : revertDue p = true ↔
    failoverDue p = false ∧ p.mode = .auto ∧ p.active = .alternate ∧ p.autoRevert = true ∧
      p.revertThr ≤ p.primary.goodRun := by
  unfold revertDue
  cases failoverDue p <;> simp [and_assoc]

theorem nextActive_of_failover {p : PathLine} (h : failoverDue p = true) : nextActive p = otherSide p.active := by
  obtain ⟨hm, hf, hj⟩ := (failoverDue_iff p).1 h
  rw [nextActive, if_neg (not_not.2 hm)]
  cases ha : p.active <;> simp only [ha] at hf hj ⊢ <;> exact if_pos ⟨hf, hj⟩

theorem nextActive_of_revert {p : PathLine} (h : revertDue p = true) : nextActive p = .primary := by
  obtain ⟨hf, hm, ha, hr⟩ := (revertDue_iff p).1 h
  rw [nextActive, if_neg (not_not.2 hm), ha]
  simp only [if_pos hr, ite_self]

theorem nextActive_of_none {p : PathLine} (hf : failoverDue p = false) (hr : revertDue p = false) :
    nextActive p = p.active := by
  by_cases hm : p.mode = .auto
  · have hf' := mt (failoverDue_iff p).2 (by rw [hf]; decide)
    have hr' := mt (revertDue_iff p).2 (by rw [hr]; decide)
    rw [nextActive, if_neg (not_not.2 hm)]
    cases ha : p.active <;> simp only [ha] at hf' hr' ⊢
    · exact if_neg fun h => hf' ⟨hm, h⟩
    · have hnot : ¬(p.failThr ≤ p.alternate.badRun ∧ p.primary.judgement = .good) := fun h => hf' ⟨hm, h⟩
      rw [if_neg hnot, if_neg fun h => hr' ⟨hf, hm, trivial, h⟩]
  · exact if_pos hm

theorem chooseActive_eq (p : PathLine) : chooseActive p = { p with active := nextActive p } := by
  unfold chooseActive failoverLine revertLine
  cases hf : failoverDue p with
  | true => rw [nextActive_of_failover hf]; rfl
  | false =>
    cases hr : revertDue p with
    | true => rw [nextActive_of_revert hr]; rfl
    | false => rw [nextActive_of_none hf hr]; rfl

theorem moveCounts_eq (s : State) (n : Line) (p : PathLine) :
    let here := equipped s n && (p.primary.connected || p.alternate.connected)
    let free : Bool := (s.line n).state == .free
    moveCounts s n p = { p with
      arrival := if free then (if here then raised 20 p.arrival else 0) else p.arrival
      gone := if free then p.gone else if here then 0 else raised 200 p.gone } := by
  have hfree : isFree (s.line n).state = ((s.line n).state == .free) := by cases (s.line n).state <;> rfl
  unfold moveCounts
  rw [hfree]
  cases ((s.line n).state == LineState.free) <;> rfl

theorem judgeFault_eq (s : State) (n : Line) (p : PathLine) : judgeFault s n p = { p with
    fault := equipped s n &&
      decide (p.failThr ≤ (if p.active = .primary then p.primary.badRun else p.alternate.badRun)) } := by
  unfold judgeFault activeFailed
  cases p.active <;> rfl

/-- A line's block-end step as the statement writes it (R133 to R138, R141, R142). -/
theorem pathLineEnd_eq (s : State) (n : Line) : pathLineEnd s n s.paths[n] = pathLineAfter s n := by
  change moveCounts s n (judgeFault s n (chooseActive (judgedLine n s))) = _
  rw [judgedLine_eq, chooseActive_eq, judgeFault_eq, moveCounts_eq]
  unfold pathLineAfter
  generalize s.paths[n] = p
  obtain ⟨primary, alternate, mode, pending, active, fault, failThr, revertThr, autoRevert, arrival, gone, lastActive,
    lastFault, tested⟩ := p
  cases pending with
  | none => rfl
  | some m => cases m <;> rfl

theorem linesWhere_true : (linesWhere fun _ => true) = allLines := by decide

/-- Settles O49. -/
theorem pathsAreJudgedAtTheBlockEnd : Obligations.PathsAreJudgedAtTheBlockEnd := by
  unfold Obligations.PathsAreJudgedAtTheBlockEnd
  intro s after differs news events
  refine congrArg Host.Outcome.next ?_
  have hnew (n : Line) : (Vector.ofFn fun n => pathLineEnd s n s.paths[n])[n] = after n := by
    rw [ofFn_get, pathLineEnd_eq]
  simp only [pathsBlockEnd, hnew, linesWhere_true]
  rfl

/-! ### The rows that name one part -/

/-- A line's values after the block-end step. -/
theorem pathsBlockEnd_path (s : State) (n : Line) : (pathsBlockEnd s).paths[n] =
    { pathLineEnd s n s.paths[n] with
      lastActive := (pathLineEnd s n s.paths[n]).active
      lastFault := (pathLineEnd s n s.paths[n]).fault
      tested := some s.lanes.block } := by
  have hpath : (pathsBlockEnd s).paths[n] = { markReported (Vector.ofFn fun n => pathLineEnd s n s.paths[n])[n] with
      tested := some s.lanes.block } := ofFn_get _ n
  rw [hpath, ofFn_get]
  rfl

/-- What the end of a line's step keeps of the values its tests found, and the path it chooses. -/
theorem pathLineEnd_keeps (s : State) (n : Line) :
    let p := judgedLine n s
    let t := pathLineEnd s n s.paths[n]
    t.mode = p.mode ∧ t.pending = p.pending ∧ t.primary = p.primary ∧ t.alternate = p.alternate ∧
      t.active = nextActive p := by
  intro p t
  have ht : t = moveCounts s n (judgeFault s n (chooseActive p)) := rfl
  rw [ht, chooseActive_eq, judgeFault_eq, moveCounts_eq]
  exact ⟨rfl, rfl, rfl, rfl, rfl⟩

theorem pathsEndDue_iff (s : State) : pathsEndDue s = true ↔
    s.lanes.frames = 48 ∧ ∀ k : Line, (s.paths[k]).tested ≠ some s.lanes.block := by
  simp [pathsEndDue, Config.framesPerBlock, List.all_eq_true, mem_allLines]

theorem restartLine_eq (toFree : Bool) (p : PathLine) : restartLine toFree p = { p with
    arrival := 0
    gone := 0
    pending := if toFree = true ∧ (p.mode ≠ .auto ∨ p.pending ≠ none) then some .auto else p.pending } := by
  simp [restartLine, Option.isSome_iff_ne_none]

/-- Settles O50. -/
theorem pathChangesOfALine : Obligations.PathChangesOfALine := by
  unfold Obligations.PathChangesOfALine
  intro n toFree s p q now first second mine other due fails reverts
  have hq : applyMode p = q := by
    simp only [applyMode, q]
    cases p.pending with
    | none => rfl
    | some m => cases m <;> rfl
  have hline : judgedLine n s = { q with primary := first, alternate := second } := by
    rw [judgedLine_eq, show applyMode s.paths[n] = q from hq]
  have hfails : failoverDue (judgedLine n s) = true ↔ fails := by
    rw [hline]
    exact failoverDue_iff _
  have hreverts : revertDue (judgedLine n s) = true ↔ reverts := by
    rw [revertDue_iff, ← Bool.not_eq_true, hfails, hline]
  have hpend : (s.paths[n]).pending.isSome = true ↔ p.pending ≠ none := Option.isSome_iff_ne_none
  have hdue (b : Bool) : (pathsEndDue s && b) = true ↔ due ∧ b = true := by
    rw [Bool.and_eq_true, pathsEndDue_iff]
  have hstep (b : Bool) : (if pathsEndDue s && b then pathsBlockEnd s else s) =
      if due ∧ b = true then pathsBlockEnd s else s := if_congr (hdue b) rfl rfl
  have hmode : exec (.pendingModeApply n) s = .next (if due ∧ p.pending ≠ none then pathsBlockEnd s else s) := by
    change Host.Outcome.next (pendingModeStep n s) = _
    simp only [pendingModeStep, hstep, hpend]
  have hfailover : exec (.failover n) s = .next (if due ∧ fails then pathsBlockEnd s else s) := by
    change Host.Outcome.next (failoverStep n s) = _
    simp only [failoverStep, hstep, hfails]
  have hrevert : exec (.revert n) s = .next (if due ∧ reverts then pathsBlockEnd s else s) := by
    change Host.Outcome.next (revertStep n s) = _
    simp only [revertStep, hstep, hreverts]
  obtain ⟨hm, hpe, hpr, hal, hac⟩ := pathLineEnd_keeps s n
  have hact : ((pathsBlockEnd s).paths[n]).active = nextActive (judgedLine n s) := by
    rw [pathsBlockEnd_path, hac]
  refine ⟨fun h => ⟨pathsBlockEnd s, ?_, rfl, ?_, ?_, ?_, ?_, fun hauto => ?_⟩, fun h => ?_,
    fun h => ⟨pathsBlockEnd s, ?_, rfl, ?_⟩, fun h => ?_, fun h => ⟨pathsBlockEnd s, ?_, rfl, ?_⟩, fun h => ?_, ?_⟩
  · rw [hmode, if_pos h]
  · rw [pathsBlockEnd_path, hm, hline]
    obtain ⟨m, hpm⟩ := Option.ne_none_iff_exists'.1 h.2
    simp only [q, hpm]
  · rw [pathsBlockEnd_path, hpe, hline]
    obtain ⟨m, hpm⟩ := Option.ne_none_iff_exists'.1 h.2
    simp only [q, hpm]
  · rw [pathsBlockEnd_path, hpr, hline]
  · rw [pathsBlockEnd_path, hal, hline]
  · rw [hact, hline, nextActive, if_pos hauto]
  · rw [hmode, if_neg h]
  · rw [hfailover, if_pos h]
  · rw [hact, nextActive_of_failover (hfails.2 h.2), hline]
    cases q.active <;> rfl
  · rw [hfailover, if_neg h]
  · rw [hrevert, if_pos h]
  · rw [hact, nextActive_of_revert (hreverts.2 h.2)]
  · rw [hrevert, if_neg h]
  · change Host.Outcome.next (setPath n (restartLine toFree s.paths[n]) _) = _
    rw [restartLine_eq]
    rfl

end Sys2Proof.Proofs.Paths
end

section
/-! PROOFS. RESET and the Start-up Loader's reads (R177, R178, R180, R181). -/

namespace Sys2Proof.Proofs.Startup

open Sys2Proof Sys2Proof.Machine Sys2Proof.Claims
open Sys2Proof.Proofs.Talk Sys2Proof.Proofs.Decisions Sys2Proof.Proofs.Steps Sys2Proof.Proofs.Laws

/-! ### Reset -/

/-- The strap levels, desk by desk (R177). -/
theorem straps_eq (e0 e1 e2 : Bool) (d : Desk) :
    (if d = 0 then e0 else if d = 1 then e1 else e2) = ([e0, e1, e2] : List Bool).getD d.val false := by
  revert e0 e1 e2 d
  decide

/-- Settles O51: every register of a vector is read off the reset value of its block. -/
theorem resetLeavesTheResetValues : Obligations.ResetLeavesTheResetValues := by
  unfold Obligations.ResetLeavesTheResetValues
  intro e0 e1 e2 s
  refine ⟨resetWith (fun d => if d = 0 then e0 else if d = 1 then e1 else e2) s, rfl, reset_rec, rfl, rfl,
    fun x => by cases x <;> rfl, rfl, rfl, fun n => ⟨ofFn_get _ n, ofFn_get _ n⟩, rfl, rfl, fun o => ofFn_get _ o,
    fun d n i => ?_, fun n => ofFn_get _ n, fun d => ⟨ofFn_get _ d, ofFn_get _ d, ofFn_get _ d⟩, fun n => ofFn_get _ n,
    rfl, rfl, rfl, rfl, rfl, fun i => ⟨ofFn_get _ i, ofFn_get _ i⟩, fun role => ⟨ofFn_get _ role, ofFn_get _ role⟩,
    fun i => ⟨ofFn_get _ i, ofFn_get _ i⟩, fun d => ?_, rfl, rfl, rfl⟩
  · have hp : (resetWith (fun d => if d = 0 then e0 else if d = 1 then e1 else e2) s).mix.peaks[d] = PeakSet.zero :=
      ofFn_get _ d
    rw [hp]
    exact ⟨ofFn_get _ n, ofFn_get _ n, ofFn_get _ i⟩
  · have hd : (resetWith (fun d => if d = 0 then e0 else if d = 1 then e1 else e2) s).desks[d] =
        Controller.reset (if d = 0 then e0 else if d = 1 then e1 else e2) := ofFn_get _ d
    rw [hd, straps_eq]
    rfl

/-! ### The memory's silence (R178) -/

/-- The end of a load whose memory does not answer. -/
def silentEnd (s : State) : State :=
  match s.loader.stage with
  | .message k _ _ => loadEnded (.stopped k 255) s
  | _ => loadEnded .absent s

theorem memorySilent_eq {s : State} (h : s.loader.stage ≠ .running) : memorySilent s = silentEnd s := by
  unfold memorySilent silentEnd
  cases hs : s.loader.stage with
  | running => exact absurd hs h
  | header r => exact endLoad_eq ..
  | message k count r => exact endLoad_eq ..

theorem memoryFails_eq (s : State) : memoryFails s =
    match s.loader.stage with
    | .running => s
    | .header r | .message _ _ r => if 20 ≤ blocksSince r.since s then silentEnd s else s := by
  simp only [memoryFails, readWait_eq]
  cases hs : s.loader.stage with
  | running => rfl
  | header r =>
    rw [← memorySilent_eq (by rw [hs]; exact LoadStage.noConfusion)]
    rfl
  | message k count r =>
    rw [← memorySilent_eq (by rw [hs]; exact LoadStage.noConfusion)]
    rfl

/-! ### The header (R178) -/

/-- What the loader does with the bytes of a header as far as they are read. -/
def headerRead (all : List Byte) (s : State) : State :=
  match all with
  | [m0, m1, c1, c0] =>
    if m0 ≠ 0x48 ∨ m1 ≠ 0x5A ∨ 1000 < carriedWord c1 c0 then loadEnded .badHeader s
    else if carriedWord c1 c0 = 0 then loadEnded .ok s
    else loads (.message 1 (carriedWord c1 c0) ⟨[], s.lanes.block⟩) s
  | all => if all.length < 4 then loads (.header ⟨all, s.lanes.block⟩) s else loadEnded .badHeader s

/-- The header's four bytes judged (R178). -/
theorem judgeHeader_four (m0 m1 c1 c0 : Byte) : judgeHeader [m0, m1, c1, c0] =
    if m0 ≠ 0x48 ∨ m1 ≠ 0x5A ∨ 1000 < carriedWord c1 c0 then none else some (carriedWord c1 c0) := by
  have hiff : (m0 = 0x48 ∧ m1 = 0x5A ∧ carriedWord c1 c0 ≤ 1000) ↔
      ¬(m0 ≠ 0x48 ∨ m1 ≠ 0x5A ∨ 1000 < carriedWord c1 c0) := by
    simp only [not_or, not_not, Nat.not_lt]
  have hj : judgeHeader [m0, m1, c1, c0] =
      if m0 = 0x48 ∧ m1 = 0x5A ∧ carriedWord c1 c0 ≤ 1000 then some (carriedWord c1 c0) else none := rfl
  rw [hj, if_congr hiff rfl rfl, ite_not]

theorem readHeader_eq {bytes : List Byte} {r : Reading} {s : State} (h : s.loader.stage = .header r) :
    readHeader bytes s =
      if 20 < blocksSince r.since s then silentEnd s else headerRead (r.got ++ bytes) s := by
  have hsilent : memorySilent s = silentEnd s := memorySilent_eq (by rw [h]; exact LoadStage.noConfusion)
  simp only [readHeader, h, hsilent, readWait_eq, endLoad_eq]
  refine if_congr Iff.rfl rfl ?_
  generalize r.got ++ bytes = all
  match all with
  | [] | [_] | [_, _] | [_, _, _] => rfl
  | [m0, m1, c1, c0] =>
    simp only [judgeHeader_four, headerRead]
    by_cases hbad : m0 ≠ 0x48 ∨ m1 ≠ 0x5A ∨ 1000 < carriedWord c1 c0
    · simp only [if_pos hbad]
      rfl
    · simp only [if_neg hbad]
      cases carriedWord c1 c0 <;> rfl
  | b0 :: b1 :: b2 :: b3 :: b4 :: rest =>
    have hlen : ¬(b0 :: b1 :: b2 :: b3 :: b4 :: rest).length < 4 := by simp
    simp only [headerRead, if_neg hlen]
    rfl

/-- Settles O52. -/
theorem loadsBeginAndEnd : Obligations.LoadsBeginAndEnd := by
  unfold Obligations.LoadsBeginAndEnd
  intro d line got b0 b1 b2 b3 since s silent
  have hsilent : silentEnd s = silent := by
    simp only [silent]
    unfold silentEnd
    cases s.loader.stage <;> rfl
  refine ⟨fun h => congrArg Host.Outcome.next ?_, congrArg Host.Outcome.next ?_, fun hw => ?_⟩
  · exact (readHeader_eq h).trans (if_congr Iff.rfl hsilent rfl)
  · refine (memoryFails_eq s).trans ?_
    cases s.loader.stage with
    | running => rfl
    | header r | message _ _ r => exact if_congr Iff.rfl hsilent rfl
  · rw [show exec (.loadConfig .decided d line []) s = _ from exec_decided (op := .loadConfig) (by decide) hw]
    refine congrArg Host.Outcome.next ?_
    simp only [decideOp, decideLoadConfig, isRunning, beq_iff_eq, apply_ite (decided d .loadConfig line)]
    rfl

end Sys2Proof.Proofs.Startup
end

section
/-! PROOFS. The messages of the configuration image (R178 to R180): their form, the commands the Loader cannot have taken,
and the settings it has taken as an ENG-permitted desk has them. -/

namespace Sys2Proof.Proofs.Image

open Sys2Proof Sys2Proof.Machine Sys2Proof.Claims
open Sys2Proof.Proofs.Talk Sys2Proof.Proofs.Decisions Sys2Proof.Proofs.Links Sys2Proof.Proofs.Assembly
open Sys2Proof.Proofs.LineOps Sys2Proof.Proofs.Startup Sys2Proof.Proofs.Settings

/-! ### The form of a message (R178) -/

theorem imageUnfinished_iff (all : List Byte) : imageUnfinished all = true ↔
    (1 ≤ all.length → all.getD 0 0 = 0xA5) ∧
    (2 ≤ all.length → 2 ≤ (all.getD 1 0).toNat ∧ (all.getD 1 0).toNat ≤ 60 ∧
      all.length < (all.getD 1 0).toNat + 3) := by
  match all with
  | [] => simp [imageUnfinished]
  | [lead] => simp [imageUnfinished]
  | lead :: len :: rest =>
    simp [imageUnfinished, and_assoc]

/-- A message that fails its form is none. -/
theorem judgeImageMessage_none {all : List Byte}
    (h : ¬(all.getD 0 0 = 0xA5 ∧ 2 ≤ (all.getD 1 0).toNat ∧ (all.getD 1 0).toNat ≤ 60 ∧
      all.length = (all.getD 1 0).toNat + 3 ∧ (all.drop 1).sum = 0)) : judgeImageMessage all = none := by
  match all, h with
  | [], _ | [_], _ => rfl
  | lead :: len :: rest, h =>
    simp only [judgeImageMessage]
    split
    · next hform =>
      obtain ⟨hlead, h2, h60, hlength⟩ := hform
      obtain rfl | ⟨got, b, rfl⟩ := List.eq_nil_or_concat rest
      · simp at hlength
      · have hgot : 2 ≤ got.length := by
          simp only [List.concat_eq_append, List.length_append, List.length_singleton] at hlength
          omega
        have hsum : (len :: got ++ [b]).sum ≠ 0 := fun hs =>
          h ⟨hlead, h2, h60, by simpa using hlength, by simpa using hs⟩
        rw [List.concat_eq_append, judgeFull_eq hgot, if_neg hsum]
    · rfl

section Encoded

variable {code line : Byte} {args : List Byte} (h : args.length ≤ 58)
include h

theorem length_byte : (BitVec.ofNat 8 (args.length + 2) : Byte).toNat = args.length + 2 := by
  rw [BitVec.toNat_ofNat]
  omega

theorem judgeImageMessage_encodeFull : judgeImageMessage (encodeFull code line args) = some (code, line, args) := by
  let n : Byte := BitVec.ofNat 8 (args.length + 2)
  have hn : n.toNat = args.length + 2 := length_byte h
  let check := checkByte (n :: code :: line :: args)
  have hgood : judgeFull (n :: code :: line :: (args ++ [check])) = .good code line args :=
    judgeFull_good (sumBytes_append_checkByte (n :: code :: line :: args))
  have hform : (0xA5 : Byte) = 0xA5 ∧ 2 ≤ n.toNat ∧ n.toNat ≤ 60 ∧
      (code :: line :: (args ++ [check])).length = n.toNat + 1 :=
    ⟨rfl, by omega, by omega, by simp [hn]⟩
  change judgeImageMessage (0xA5 :: n :: code :: line :: (args ++ [check])) = _
  rw [judgeImageMessage, if_pos hform, hgood]

theorem imageUnfinished_encodeFull : imageUnfinished (encodeFull code line args) = false := by
  have hn := length_byte h
  refine Bool.eq_false_iff.2 fun hu => ?_
  obtain ⟨-, -, hlt⟩ := (imageUnfinished_iff _).1 hu |>.imp_right fun h2 => h2 (by simp [encodeFull])
  simp [encodeFull, hn] at hlt

end Encoded

/-! ### What a read comes to (R178, R179) -/

/-- Where a message's decision leaves the load (R178, R180). -/
def imageResult (k count : Nat) (r : Decision) : State :=
  if r.result = .done then loadGoesOn k count r.state
  else loadEnded (.stopped k (BitVec.ofNat 8 (resultNumber r.result))) r.state

theorem decideImage_some {all : List Byte} {code line : Byte} {args : List Byte} {k count : Nat} {s : State}
    (h : judgeImageMessage all = some (code, line, args)) :
    decideImage all k count s = imageResult k count (imageDecision code line args s) := by
  simp only [decideImage, h, endLoad_eq, resultCode_eq]
  rfl

theorem imageResult_refuse {k count : Nat} {r : Result} (h : r ≠ .done) (s : State) :
    imageResult k count (refuse r s) = loadEnded (.stopped k (BitVec.ofNat 8 (resultNumber r))) s := if_neg h

theorem imageResult_taken (k count : Nat) (data : List Byte) (s : State) :
    imageResult k count (taken data s) = loadGoesOn k count s := if_pos rfl

section Read

variable {bytes got : List Byte} {since : BlockNo} {k count : Nat} {s : State}
  (hs : s.loader.stage = .message k count ⟨got, since⟩)
include hs

theorem exec_loaderMessage : exec (.loaderMessage bytes) s = .next
    (if 20 < blocksSince since s then loadEnded (.stopped k 255) s
    else if imageUnfinished (got ++ bytes) then loads (.message k count ⟨got ++ bytes, s.lanes.block⟩) s
    else decideImage (got ++ bytes) k count s) := by
  have hsilent : memorySilent s = loadEnded (.stopped k 255) s := by
    rw [memorySilent_eq (by rw [hs]; exact LoadStage.noConfusion), silentEnd, hs]
  refine congrArg Host.Outcome.next ?_
  simp only [readMessage, hs, hsilent, readWait_eq]
  rfl

variable (hwait : blocksSince since s ≤ 20)
include hwait

/-- A whole message in its form is decided. -/
theorem exec_encoded {code line : Byte} {args : List Byte} (ha : args.length ≤ 58)
    (h : got ++ bytes = encodeFull code line args) :
    exec (.loaderMessage bytes) s = .next (imageResult k count (imageDecision code line args s)) := by
  rw [exec_loaderMessage hs, if_neg (Nat.not_lt.2 hwait), h, imageUnfinished_encodeFull ha,
    decideImage_some (judgeImageMessage_encodeFull ha)]
  rfl

theorem exec_encoded_op {op : Op} {line : Byte} {args : List Byte} (ha : args.length ≤ 58)
    (h : got ++ bytes = encodeFull (opCode op) line args) :
    exec (.loaderMessage bytes) s = .next (imageResult k count (loaderDecides op line args s)) := by
  rw [exec_encoded hs hwait ha h, imageDecision, opOfCode_opCode]

end Read

/-! ### The commands the Loader cannot have taken (R179) -/

/-- Steps 1 to 4 of the check order from the Loader, which has no rights on a line (R13, R179). -/
def loaderRefusal (line : Byte) (s : State) (rest : Line → Result) : Result :=
  match lineOfByte line with
  | none => .noLine
  | some n =>
    if (s.maps.input[primaryRole n]).isNone then .notEquipped
    else if (s.line n).state = .free then .noParty
    else rest n

theorem equipped_eq_false_iff (s : State) (n : Line) :
    equipped s n = false ↔ (s.maps.input[primaryRole n]).isNone = true := by
  unfold equipped
  cases s.maps.input[primaryRole n] <;> simp

theorem lineCommand_loader (op : Op) (line : Byte) (s : State) (body : Line → Decision) :
    lineCommand op .loader line s body = refuse (loaderRefusal line s fun _ => .notYours) s := by
  unfold loaderRefusal
  cases hl : lineOfByte line with
  | none => exact lineCommand_noLine hl
  | some n =>
    have hr : refusalAt op .loader n s = some (if (s.maps.input[primaryRole n]).isNone then .notEquipped
        else if (s.line n).state = .free then .noParty else .notYours) := by
      simp only [refusalAt, equipped_eq_false_iff, isFree_eq_true_iff, passesRights, if_true, apply_ite some]
    exact lineCommand_refused hl hr

theorem presentLine_loader {line : Byte} {s : State} {body : Line → Decision} {rest : Line → Result}
    (h : ∀ n, body n = refuse (rest n) s) : presentLine line s body = refuse (loaderRefusal line s rest) s := by
  unfold presentLine loaderRefusal
  cases lineOfByte line with
  | none => rfl
  | some n =>
    simp only [h, equipped_eq_false_iff, isFree_eq_true_iff]
    split
    · rfl
    · split <;> rfl

/-- What a line command from the Loader is, by its arguments: the check order when they lie in their domains, and refused
BAD-VALUE otherwise (R12, R179). -/
def LoaderCheckedOrBad (op : Op) (line : Byte) (args : List Byte) (s : State) : Prop :=
  (argsInDomain op args = true ∧ ∃ body, decideOp op .loader line args s = lineCommand op .loader line s body) ∨
  (argsInDomain op args = false ∧ decideOp op .loader line args s = refuse .badValue s)

/-- A command with one argument byte that names a studio. -/
theorem loaderCheckedOrBad_of_studio {op : Op} {line b : Byte} {s : State}
    (hdom : argsInDomain op [b] = decide (b.toNat ≤ 1))
    (hgood : ∀ x, studioOfByte b = some x → ∃ body, decideOp op .loader line [b] s = lineCommand op .loader line s body)
    (hbad : studioOfByte b = none → decideOp op .loader line [b] s = refuse .badValue s) :
    LoaderCheckedOrBad op line [b] s := by
  by_cases hb : b.toNat ≤ 1
  · exact .inl ⟨by rw [hdom, decide_eq_true hb], hgood _ (studioOfByte_named hb)⟩
  · exact .inr ⟨by rw [hdom, decide_eq_false hb], hbad (studioOfByte_eq_none hb)⟩

theorem lineOp_loaderCheckedOrBad {op : Op} (ho : op ∈ lineOps) (line : Byte) {args : List Byte} (s : State)
    (hc : argCountFits op args.length = true) : LoaderCheckedOrBad op line args s := by
  cases op with
  | queue =>
    obtain ⟨b, rfl⟩ := length_one hc
    refine loaderCheckedOrBad_of_studio (by simp [argsInDomain, argCountFits]) (fun x hx => ?_) fun hx => ?_
    · rw [decideOp, decideQueue, List.head?_cons, Option.bind_some, hx]
      exact ⟨_, rfl⟩
    · rw [decideOp, decideQueue, List.head?_cons, Option.bind_some, hx]
  | give =>
    obtain ⟨b, rfl⟩ := length_one hc
    refine loaderCheckedOrBad_of_studio (by simp [argsInDomain, argCountFits]) (fun x hx => ?_) fun hx => ?_
    · rw [decideOp, decideGive, List.head?_cons, Option.bind_some, hx]
      exact ⟨_, rfl⟩
    · rw [decideOp, decideGive, List.head?_cons, Option.bind_some, hx]
  | setHome =>
    obtain ⟨b, rfl⟩ := length_one hc
    refine loaderCheckedOrBad_of_studio (by simp [argsInDomain, argCountFits]) (fun x hx => ?_) fun hx => ?_
    · rw [decideOp, decideSetHome, List.head?_cons, Option.bind_some, hx]
      exact ⟨_, rfl⟩
    · rw [decideOp, decideSetHome, List.head?_cons, Option.bind_some, hx]
  | forcePath =>
    obtain ⟨b, rfl⟩ := length_one hc
    have hdom : argsInDomain .forcePath [b] = decide (b.toNat ≤ 2) := by simp [argsInDomain, argCountFits]
    by_cases hb : b.toNat ≤ 2
    · obtain ⟨m, hm⟩ := modeOfByte_of_le hb
      refine .inl ⟨by rw [hdom, decide_eq_true hb], ?_⟩
      rw [decideOp, decideForcePath, List.head?_cons, Option.bind_some, hm]
      exact ⟨_, rfl⟩
    · refine .inr ⟨by rw [hdom, decide_eq_false hb], ?_⟩
      rw [decideOp, decideForcePath, List.head?_cons, Option.bind_some, modeOfByte_eq_none hb]
  | setLevel | setReturn =>
    obtain ⟨hi, lo, rfl⟩ := length_two hc
    exact .inl ⟨rfl, _, rfl⟩
  | setLabel =>
    have hdom : argsInDomain .setLabel args = args.all printable := by
      rw [argsInDomain, hc, Bool.true_and]
      rfl
    by_cases hp : args.all printable = true
    · exact .inl ⟨hdom.trans hp, _, if_pos hp⟩
    · exact .inr ⟨hdom.trans (Bool.eq_false_of_not_eq_true hp), if_neg hp⟩
  | nop | takeNext | talkOn | talkOff | setConf | setCtxGain | setDuck | setTalkGain | readLine | readStudio | readMeters
  | linkStatus | setMask | mapInput | mapOutput | setPathTiming | setStemTiming | setClock | setTalkTimeout | loadConfig =>
    exact absurd ho (by decide)
  -- The line commands without arguments.
  | _ =>
    obtain rfl := length_zero hc
    exact .inl ⟨rfl, _, rfl⟩

/-- A line command from the Loader is refused (R179). -/
theorem lineOp_loader {op : Op} (ho : op ∈ lineOps) (line : Byte) {args : List Byte} (s : State)
    (hc : argCountFits op args.length = true) : decideOp op .loader line args s =
      refuse (if argsInDomain op args then loaderRefusal line s fun _ => .notYours else .badValue) s := by
  obtain ⟨hd, body, h⟩ | ⟨hd, h⟩ := lineOp_loaderCheckedOrBad ho line s hc
  · rw [h, lineCommand_loader, hd]
    rfl
  · rw [h, hd]
    rfl

theorem talkOn_loader (line : Byte) (args : List Byte) (s : State) :
    decideOp .talkOn .loader line args s = refuse (loaderRefusal line s fun _ => .notYours) s :=
  presentLine_loader fun _ => rfl

theorem talkOff_loader (line : Byte) (args : List Byte) (s : State) :
    decideOp .talkOff .loader line args s = refuse (loaderRefusal line s fun n =>
      if isClearing (s.line n).state then .wrongState else .notYours) s :=
  presentLine_loader fun n => by
    split <;> rfl

/-- A refusal of the table is no DONE. -/
theorem loaderRefusal_ne_done {line : Byte} {s : State} {rest : Line → Result} (h : ∀ n, rest n ≠ .done) :
    loaderRefusal line s rest ≠ .done := by
  unfold loaderRefusal
  cases lineOfByte line with
  | none => exact Result.noConfusion
  | some n =>
    simp only
    split
    · exact Result.noConfusion
    · split
      · exact Result.noConfusion
      · exact h n

/-- The table of refusals for a command with its right argument count (R179). -/
def imageTable (op : Op) (line : Byte) (args : List Byte) (s : State) : Option Result :=
  match op with
  | .setMask => some .notYours
  | .loadConfig => some .starting
  | .takeNext => some .notYours
  | .talkOn => some (loaderRefusal line s fun _ => .notYours)
  | .talkOff => some (loaderRefusal line s fun n => if isClearing (s.line n).state then .wrongState else .notYours)
  | op =>
    if op ∈ lineOps then
      (if argsInDomain op args then some (loaderRefusal line s fun _ => .notYours) else some .badValue)
    else none

theorem imageRefusal_eq {op : Op} {line : Byte} {args : List Byte} (s : State)
    (hc : argCountFits op args.length = true) : imageRefusal op line args s = imageTable op line args s := by
  unfold imageRefusal
  rw [if_neg (by rw [hc]; exact Bool.noConfusion)]
  cases op <;> rfl

/-- What the Loader has decided of a command with its right argument count (R179). -/
def loaderTable (op : Op) (line : Byte) (args : List Byte) (s : State) : Decision :=
  match op with
  | .nop | .linkStatus => taken [] s
  | .setMask => refuse .notYours s
  | .loadConfig => refuse .starting s
  | op => decideOp op .loader line args s

theorem loaderDecides_eq {op : Op} {line : Byte} {args : List Byte} (s : State)
    (hc : argCountFits op args.length = true) : loaderDecides op line args s = loaderTable op line args s := by
  unfold loaderDecides
  rw [if_neg (by rw [hc]; exact Bool.noConfusion)]
  cases op <;> rfl

/-- The table of refusals as the Loader decides: the command is refused with that result, which is not DONE (R179). -/
theorem loaderDecides_of_imageRefusal {op : Op} {line : Byte} {args : List Byte} {s : State} {r : Result}
    (h : imageRefusal op line args s = some r) : loaderDecides op line args s = refuse r s ∧ r ≠ .done := by
  by_cases hc : argCountFits op args.length = false
  · unfold imageRefusal at h
    rw [if_pos hc] at h
    obtain rfl := Option.some.inj h
    exact ⟨if_pos hc, Result.noConfusion⟩
  rw [Bool.not_eq_false] at hc
  rw [imageRefusal_eq s hc] at h
  rw [loaderDecides_eq s hc]
  have hline (ho : op ∈ lineOps) (ht : imageTable op line args s = if op ∈ lineOps then
      (if argsInDomain op args then some (loaderRefusal line s fun _ => .notYours) else some .badValue) else none) :
      decideOp op .loader line args s = refuse r s ∧ r ≠ .done := by
    rw [ht, if_pos ho] at h
    rw [lineOp_loader ho line s hc]
    split at h <;> obtain rfl := Option.some.inj h
    · next hd => exact ⟨by rw [if_pos hd], loaderRefusal_ne_done fun _ => Result.noConfusion⟩
    · next hd => exact ⟨by rw [if_neg hd], Result.noConfusion⟩
  cases op with
  | setMask | loadConfig | takeNext =>
    obtain rfl := Option.some.inj h
    exact ⟨rfl, Result.noConfusion⟩
  | talkOn =>
    obtain rfl := Option.some.inj h
    exact ⟨talkOn_loader line args s, loaderRefusal_ne_done fun _ => Result.noConfusion⟩
  | talkOff =>
    obtain rfl := Option.some.inj h
    refine ⟨talkOff_loader line args s, loaderRefusal_ne_done fun n => ?_⟩
    split <;> exact Result.noConfusion
  | nop | setConf | setCtxGain | setDuck | setTalkGain | readLine | readStudio | readMeters | linkStatus | mapInput
  | mapOutput | setPathTiming | setStemTiming | setClock | setTalkTimeout =>
    exact nomatch (show none = some r from h)
  | _ => exact hline (by decide) rfl

/-- Settles O53. -/
theorem imageMessageStopsTheLoad : Obligations.ImageMessageStopsTheLoad := by
  unfold Obligations.ImageMessageStopsTheLoad
  intro got bytes since code line op args k count s hs hargs all len unfinished wellFormed
  refine ⟨fun hlate => ?_, fun hwait => ⟨fun hu => ?_, fun hu hw => ?_, fun hcode hall => ?_, fun hall r hr => ?_⟩⟩
  · rw [exec_loaderMessage hs, if_pos hlate]
  · rw [exec_loaderMessage hs, if_neg (Nat.not_lt.2 hwait), if_pos ((imageUnfinished_iff all).2 hu)]
  · rw [exec_loaderMessage hs, if_neg (Nat.not_lt.2 hwait), if_neg (mt (imageUnfinished_iff all).1 hu), decideImage,
      judgeImageMessage_none hw, endLoad_eq]
  · have hnone : opOfCode code = none := opOfCode_eq_none fun o ho he => hcode (List.mem_map.2 ⟨o, ho, he⟩)
    rw [exec_encoded hs hwait hargs hall, imageDecision, hnone]
    rfl
  · obtain ⟨hdec, hne⟩ := loaderDecides_of_imageRefusal hr
    rw [exec_encoded_op hs hwait hargs hall, hdec, imageResult_refuse hne]

end Sys2Proof.Proofs.Image
end

section
/-! PROOFS. A setting of the image and the same command from an ENG-permitted desk (R109, R126, R179): the owner decides
both alike, and neither touches a controller. -/

namespace Sys2Proof.Proofs.ImageSettings

open Sys2Proof Sys2Proof.Machine Sys2Proof.Claims
open Sys2Proof.Proofs.Talk Sys2Proof.Proofs.Decisions Sys2Proof.Proofs.LineOps Sys2Proof.Proofs.Image

/-- The state with desk d ENG-permitted, and with the given handed list and reply places. -/
def fromEng (d : Desk) (handed : List (Owner × Handed)) (replies : List Place) (s : State) : State :=
  { s with desks := s.desks.set d { s.desks[d] with strap := true, handed := handed, replies := replies } }

section Settings

variable {d : Desk} {handed : List (Owner × Handed)} {replies : List Place} {s : State}

@[simp] theorem fromEng_ctx : (fromEng d handed replies s).ctx = s.ctx := rfl

theorem fromEng_desk : (fromEng d handed replies s).desk d =
    { s.desks[d] with strap := true, handed := handed, replies := replies } :=
  setDesk_desk_self d _ s

/-- The desk's decision is the Loader's, carried on to the desk's state, and touches no controller. -/
def AsEng (d : Desk) (handed : List (Owner × Handed)) (replies : List Place) (s : State) (x y : Decision) : Prop :=
  x = thenState (fromEng d handed replies) y ∧ y.state.desks = s.desks

theorem AsEng.refuse (r : Result) :
    AsEng d handed replies s (refuse r (fromEng d handed replies s)) (refuse r s) := ⟨rfl, rfl⟩

theorem AsEng.ite {c : Prop} [Decidable c] {x y x' y' : Decision} (h : AsEng d handed replies s x y)
    (h' : AsEng d handed replies s x' y') :
    AsEng d handed replies s (if c then x else x') (if c then y else y') := by
  split
  · exact h
  · exact h'

theorem AsEng.context {c : Context} {x y : Decision} (h : AsEng d handed replies s x y) :
    AsEng d handed replies s (contextCommand (.desk d) c (fromEng d handed replies s) x)
      (contextCommand .loader c s y) := by
  have hmay : maySetContext (fromEng d handed replies s) (.desk d) c = true := by
    simp only [maySetContext, fromEng_desk, Bool.true_or]
  rw [contextCommand, contextCommand, if_pos hmay]
  exact h

/-- The settings an image can hold (R179). -/
def imageSettings : List Op :=
  [.setConf, .setCtxGain, .setDuck, .setTalkGain, .mapInput, .mapOutput, .setPathTiming, .setStemTiming, .setClock,
   .setTalkTimeout]

theorem decideOp_asEng {op : Op} (ho : op ∈ imageSettings) (line : Byte) (args : List Byte) :
    AsEng d handed replies s (decideOp op (.desk d) line args (fromEng d handed replies s))
      (decideOp op .loader line args s) := by
  cases op with
  | setConf =>
    simp only [decideOp, decideSetConf, fromEng_ctx]
    split
    · split
      · split
        · exact .refuse _
        · exact .context ⟨rfl, rfl⟩
      · exact .refuse _
    · exact .refuse _
  | setCtxGain =>
    simp only [decideOp, decideSetCtxGain, fromEng_ctx]
    split
    · split
      · exact .refuse _
      · split
        · exact .refuse _
        · exact .context ⟨rfl, rfl⟩
    · exact .refuse _
  | setDuck =>
    simp only [decideOp, decideSetDuck]
    split
    · split
      · exact .refuse _
      · exact .context ⟨rfl, rfl⟩
    · exact .refuse _
  | setStemTiming =>
    simp only [decideOp, decideSetStemTiming, fromEng_ctx]
    split
    · split
      · exact .context ⟨rfl, rfl⟩
      · exact .refuse _
    · exact .refuse _
  | setTalkGain =>
    simp only [decideOp, decideSetTalkGain, fromEng_desk, Bool.or_true, if_true]
    split
    · split
      · exact .refuse _
      · exact ⟨rfl, rfl⟩
    · exact .refuse _
  | setTalkTimeout =>
    simp only [decideOp, decideSetTalkTimeout]
    split
    · split
      · exact .refuse _
      · exact ⟨rfl, rfl⟩
    · exact .refuse _
  | mapInput =>
    simp only [decideOp, decideMapInput]
    split
    · split
      · split
        · exact .refuse _
        · exact .ite ⟨rfl, rfl⟩ (.ite (.refuse _) ⟨rfl, rfl⟩)
      · exact .refuse _
    · exact .refuse _
  | mapOutput =>
    simp only [decideOp, decideMapOutput]
    split
    · split
      · exact ⟨rfl, rfl⟩
      · exact .refuse _
    · exact .refuse _
  | setPathTiming =>
    simp only [decideOp, decideSetPathTiming]
    split
    · split
      · exact .refuse _
      · exact .ite (.refuse _) ⟨rfl, rfl⟩
    · exact .refuse _
  | setClock =>
    simp only [decideOp, decideSetClock]
    split
    · exact .refuse _
    · exact ⟨rfl, rfl⟩
  | _ => exact absurd ho (by decide)

end Settings

theorem argCountFits_le {op : Op} {n : Nat} (h : argCountFits op n = true) : n ≤ 58 := by
  cases op <;> simp only [argCountFits, beq_iff_eq, decide_eq_true_eq] at h <;> omega

/-- A command that gives DONE and changes nothing goes on to the next message. -/
theorem imageResult_done {k count : Nat} {r : Decision} {s : State} (h : ∃ data, r = taken data s) :
    imageResult k count r = loadGoesOn k count s := by
  obtain ⟨data, rfl⟩ := h
  exact imageResult_taken k count data s

/-- What the desk's reply shows and what the desk's step leaves beside the controllers. -/
theorem decided_fromEng (d : Desk) (op : Op) (line : Byte) (handed : List (Owner × Handed)) (r : Decision) :
    let t := decided d op line (thenState (fromEng d handed [.waiting (ownerOf op)]) r)
    (t.desk d).replies = [.ready ⟨opCode op, line, r.result, r.clamped, r.data⟩] ∧
      { t with desks := r.state.desks } = r.state := by
  refine ⟨?_, rfl⟩
  have hwaiting : ((takeHanded (ownerOf op) d (fromEng d handed [.waiting (ownerOf op)] r.state)).desk d).replies =
      [.waiting (ownerOf op)] := by
    rw [takeHanded, setDesk_desk_self, fromEng_desk]
  rw [decided, answered_eq, fillReply, setDesk_desk_self]
  change fillPlace _ _ ((takeHanded (ownerOf op) d (fromEng d handed [.waiting (ownerOf op)] r.state)).desk d).replies = _
  rw [hwaiting]
  exact if_pos rfl

theorem owner_of_setting {op : Op} (ho : op ∈ imageSettings) : ownerOf op ≠ .controller := by
  revert op
  decide

/-- A setting has no refusal of the Loader's own (R179). -/
theorem loaderTable_of_setting {op : Op} (ho : op ∈ imageSettings) (line : Byte) (args : List Byte) (s : State) :
    loaderTable op line args s = decideOp op .loader line args s := by
  cases op with
  | nop | linkStatus | setMask | loadConfig => exact absurd ho (by decide)
  | _ => rfl

/-- Settles O54. -/
theorem imageMessageHasItsOwnersEffect : Obligations.ImageMessageHasItsOwnersEffect := by
  unfold Obligations.ImageMessageHasItsOwnersEffect
  intro d line op got bytes since args k count s hs hwait hall hc
  have hexec : exec (.loaderMessage bytes) s = .next (imageResult k count (loaderTable op line args s)) := by
    rw [exec_encoded_op hs hwait (argCountFits_le hc) hall, loaderDecides_eq s hc]
  have hrefused {r : Result} (hr : r ≠ .done) (ht : loaderTable op line args s = refuse r s) :
      exec (.loaderMessage bytes) s = .next (loadEnded (.stopped k (BitVec.ofNat 8 (resultNumber r))) s) := by
    rw [hexec, ht, imageResult_refuse hr]
  refine ⟨fun h => ?_, fun ⟨h, hl⟩ => ?_, fun ⟨h, hb⟩ => ?_, fun ho => ?_⟩
  · rw [hexec, imageResult_done]
    obtain rfl | rfl | ⟨rfl | rfl, hl⟩ | ⟨rfl, hb⟩ := h
    · exact ⟨[], rfl⟩
    · exact ⟨[], rfl⟩
    · obtain ⟨n, hn⟩ := Option.isSome_iff_exists.1 hl
      exact ⟨lineData s n, by simp only [loaderTable, decideOp, decideReadLine, hn]⟩
    · obtain ⟨n, hn⟩ := Option.isSome_iff_exists.1 hl
      exact ⟨[], by simp only [loaderTable, decideOp, decideReadMeters, hn]⟩
    · obtain ⟨b, rfl⟩ := length_one hc
      have hx : studioOfByte b = some (namedStudio [b]) := studioOfByte_named hb
      exact ⟨[], by simp only [loaderTable, decideOp, decideReadStudio, List.head?_cons, Option.bind_some, hx]⟩
  · refine hrefused (r := .noLine) Result.noConfusion ?_
    obtain rfl | rfl := h
    · simp only [loaderTable, decideOp, decideReadLine, hl]
    · simp only [loaderTable, decideOp, decideReadMeters, hl]
  · refine hrefused (r := .badValue) Result.noConfusion ?_
    subst h
    obtain ⟨b, rfl⟩ := length_one hc
    have hx : studioOfByte b = none := studioOfByte_eq_none (Nat.not_le.2 hb)
    simp only [loaderTable, decideOp, decideReadStudio, List.head?_cons, Option.bind_some, hx]
  · intro fromDesk
    have hfrom : fromDesk = fromEng d [(ownerOf op, .command op line args)] [.waiting (ownerOf op)] s := rfl
    have hwaits : Waits fromDesk d op line args := by
      rw [Waits, hfrom, fromEng_desk]
      simp [firstFor]
    obtain ⟨hdec, hdesks⟩ := decideOp_asEng (d := d) (handed := [(ownerOf op, .command op line args)])
      (replies := [.waiting (ownerOf op)]) (s := s) ho line args
    obtain ⟨hreplies, hstate⟩ := decided_fromEng d op line [(ownerOf op, .command op line args)]
      (decideOp op .loader line args s)
    let r := decideOp op .loader line args s
    refine ⟨_, exec_decided (owner_of_setting ho) hwaits, ⟨opCode op, line, r.result, r.clamped, r.data⟩, ?_, ?_⟩
    · rw [hfrom, hdec]
      exact hreplies
    · intro u
      have hu : u = r.state := by
        rw [hdesks, ← hdec] at hstate
        exact hstate
      rw [hexec, loaderTable_of_setting ho, hu]
      rfl

end Sys2Proof.Proofs.ImageSettings
end
